-- ==== Sys2Proof/Word.lean ====
section
/-! DEFINITION. The words of the part: a host byte, a reading of the 24-bit cc counter, a time in 1/256 cc, and
the level of a line. -/

namespace Sys2Proof

/-- One byte of the host port (11 R171). -/
abbrev Byte := BitVec 8

/-- A reading of the 24-bit free-running cc counter (01 R1). -/
abbrev Timestamp := BitVec 24

/-- A time in 1/256 cc, modulo 2^32 (02 R20). -/
abbrev FineTime := BitVec 32

/-- The level of a line or pin. -/
inductive Level
  | low
  | high
deriving DecidableEq, Repr

end Sys2Proof
end

