-- ==== Sys2Proof/Config.lean ====
section
/-! DEFINITION. What the spec leaves open: the free values. -/

namespace Sys2Proof

/-- FREE VALUE (log 4). Whether, at a line start that the part takes by itself and that carries both a cue edge and
a field step, the cue work comes before the step: 09 R157 allows both. Applied to `State.freeIndex`, so every
such line start has a value of its own. -/
opaque Config.cueWorkFirst : Nat → Bool

end Sys2Proof
end

