-- ==== Sys2Proof/Syntax.lean ====
section
/-! DEFINITION. The commands the block takes: one constructor of `Instr` per row of spec/opcode_table.json, and
the names of the host's commands with their codes and parameter counts (11 R174). -/

namespace Sys2Proof

/-- The levels that the world outside puts on CUE0 to CUE3 (09, "The unit's state"): HIGH is the pull-up. -/
structure CueLevels where
  c0 : Level
  c1 : Level
  c2 : Level
  c3 : Level
deriving DecidableEq, Repr

/-- The commands of the host port (11 R174, the command code table). -/
inductive Command
  | createTitle | amendTitle | queryTitle | listTitles | hitTest | retireTitle | resetTitles
  | arm | disarm | start | leave | halt | resume | rearm | cutAll
  | setTiming | holdAmendments | applyAmendments | queryPending | discardPending
  | setMode | reportMode | setEvents | enterStandby | leaveStandby
  | setCueLine | reportCueLines
  | reportCondition | reportLock | readEvents | readNotices
deriving DecidableEq, Repr

/-- The commands that the block takes from outside and the events of its own clock: one constructor per row of
spec/opcode_table.json.

A host command that takes parameters is performed at the write of its last parameter byte (11 R174), so its row
carries that byte; the bytes before it have come by `commandByteWrite` and `parameterByteWrite`. A host command
without parameters is the write of its command byte. -/
inductive Instr
  /-- POWER_ON: power-on ends with this level on CSYNC (10 R170, 01 R18). -/
  | powerOn (csync : Level)
  /-- PIN_RESET_START: RESET goes low (03 R56). -/
  | pinResetStart
  /-- PIN_RESET: RESET goes high again (10 R170). -/
  | pinReset
  /-- CSYNC_FALLING_EDGE (01 R2). -/
  | csyncFallingEdge
  /-- CSYNC_RISING_EDGE (01 R6). -/
  | csyncRisingEdge
  /-- QUALIFICATION_EXPIRY (01 R4). -/
  | qualificationExpiry
  /-- OVERLONG_EXPIRY (01 R7). -/
  | overlongExpiry
  /-- RUN_EXPIRY (01 R10). -/
  | runExpiry
  /-- GATE_OPEN (02 R22). -/
  | gateOpen
  /-- GATE_DECISION_EXPIRY (02 R22). -/
  | gateDecisionExpiry
  /-- FREE_LINE_DECISION (02 R24). -/
  | freeLineDecision
  /-- LINE_START (02 R21), with the outside levels of the cue lines at it, and whether the cue work comes before
  a field step of the same line start (09 R157 allows both orders). -/
  | lineStart (cues : CueLevels) (cueFirst : Bool)
  /-- PIXEL_SAMPLE (03 R48), with the index on CPIX0-CPIX3. -/
  | pixelSample (cpix : BitVec 4)
  /-- CHS (03 R46). -/
  | chs
  /-- CHS_PULSE_END (03 R46). -/
  | chsPulseEnd
  /-- CREATE_TITLE: byte 41 of the creation block, auto-retire (04 R65). -/
  | createTitle (autoRetire : Byte)
  /-- AMEND_TITLE: the high byte of the value (07 R122). -/
  | amendTitle (valueHigh : Byte)
  /-- QUERY_TITLE (04 R67). -/
  | queryTitle (handle : Byte)
  /-- LIST_TITLES: the high byte of the phase set (04 R68). -/
  | listTitles (setHigh : Byte)
  /-- HIT_TEST: the high byte of x (04 R69). -/
  | hitTest (xHigh : Byte)
  /-- RETIRE_TITLE with the mode byte IMMEDIATE, 0 (04 R73). -/
  | retireTitleImmediate
  /-- RETIRE_TITLE with the mode byte GRACEFUL, 1 (04 R74). -/
  | retireTitleGraceful
  /-- RESET_TITLES (04 R75). -/
  | resetTitles
  /-- ARM (05 R81). -/
  | arm (handle : Byte)
  /-- DISARM (05 R81). -/
  | disarm (handle : Byte)
  /-- START (05 R82). -/
  | start (handle : Byte)
  /-- LEAVE (05 R93). -/
  | leave (handle : Byte)
  /-- HALT with the mode byte IMMEDIATE, 0 (05 R94). -/
  | haltImmediate
  /-- HALT with the mode byte DECELERATED, 1 (05 R95). -/
  | haltDecelerated
  /-- RESUME (05 R96). -/
  | resume (handle : Byte)
  /-- REARM (05 R97). -/
  | rearm (handle : Byte)
  /-- CUT_ALL (05 R98). -/
  | cutAll
  /-- SET_TIMING: the high byte of the value (07 R125). -/
  | setTiming (valueHigh : Byte)
  /-- HOLD_AMENDMENTS (07 R131). -/
  | holdAmendments
  /-- APPLY_AMENDMENTS (07 R131). -/
  | applyAmendments
  /-- QUERY_PENDING (07 R132). -/
  | queryPending
  /-- DISCARD_PENDING (07 R133). -/
  | discardPending (handle : Byte)
  /-- SET_MODE: the high byte of the value (10 R166). -/
  | setMode (valueHigh : Byte)
  /-- REPORT_MODE (10 R168). -/
  | reportMode (item : Byte)
  /-- SET_EVENTS: the high byte of the set (10 R169). -/
  | setEvents (setHigh : Byte)
  /-- ENTER_STANDBY (10 R163). -/
  | enterStandby
  /-- LEAVE_STANDBY (10 R164). -/
  | leaveStandby
  /-- SET_CUE_LINE: the handle byte (09 R159). -/
  | setCueLine (handle : Byte)
  /-- REPORT_CUE_LINES (09 R161). -/
  | reportCueLines
  /-- REPORT_CONDITION: the length n (11 R178). -/
  | reportCondition (length : Byte)
  /-- REPORT_LOCK (02 R42). -/
  | reportLock
  /-- READ_EVENTS (11 R183). -/
  | readEvents
  /-- READ_NOTICES (11 R184). -/
  | readNotices
  /-- UNKNOWN_COMMAND: a command byte that names no command (11 R176). -/
  | unknownCommand (code : Byte)
  /-- STRAY_PARAMETER_BYTE: a parameter byte while nothing is collected (11 R174). -/
  | strayParameterByte (value : Byte)
  /-- RESULT_READ (11 R175). -/
  | resultRead
  /-- STATUS_READ (11 R172). -/
  | statusRead
  /-- PALETTE_ADDRESS_WRITE (08 R150). -/
  | paletteAddressWrite (value : Byte)
  /-- PALETTE_ADDRESS_READ (08 R150). -/
  | paletteAddressRead
  /-- PALETTE_DATA_WRITE (08 R151). -/
  | paletteDataWrite (value : Byte)
  /-- PALETTE_DATA_READ (08 R152). -/
  | paletteDataRead
  /-- COMMAND_BYTE_WRITE: the code of a command that takes parameters (11 R174). -/
  | commandByteWrite (code : Byte)
  /-- PARAMETER_BYTE_WRITE: a parameter byte that is not the last (11 R174). -/
  | parameterByteWrite (value : Byte)
deriving DecidableEq, Repr

end Sys2Proof
end

