-- ==== Sys2Proof/Decode.lean ====
section
/-! DEFINITION. Decoding: the command codes of the host port (11 R174, the command code table) and the host's
question about table words. spec/opcode_table.json gives no row any bits, so no word spells a row. -/

namespace Sys2Proof

/-- The code byte of a command (11 R174). -/
def Command.code : Command → Byte
  | .createTitle => 0x10
  | .amendTitle => 0x11
  | .queryTitle => 0x12
  | .listTitles => 0x13
  | .hitTest => 0x14
  | .retireTitle => 0x15
  | .resetTitles => 0x16
  | .arm => 0x20
  | .disarm => 0x21
  | .start => 0x22
  | .leave => 0x23
  | .halt => 0x24
  | .resume => 0x25
  | .rearm => 0x26
  | .cutAll => 0x27
  | .setTiming => 0x30
  | .holdAmendments => 0x31
  | .applyAmendments => 0x32
  | .queryPending => 0x33
  | .discardPending => 0x34
  | .setMode => 0x40
  | .reportMode => 0x41
  | .setEvents => 0x42
  | .enterStandby => 0x43
  | .leaveStandby => 0x44
  | .setCueLine => 0x50
  | .reportCueLines => 0x51
  | .reportCondition => 0x60
  | .reportLock => 0x61
  | .readEvents => 0x62
  | .readNotices => 0x63

/-- How many parameter bytes a command takes (11 R174). -/
def Command.paramCount : Command → Nat
  | .createTitle => 41
  | .amendTitle => 4
  | .queryTitle => 1
  | .listTitles => 2
  | .hitTest => 5
  | .retireTitle => 2
  | .resetTitles => 0
  | .arm => 1
  | .disarm => 1
  | .start => 1
  | .leave => 1
  | .halt => 2
  | .resume => 1
  | .rearm => 1
  | .cutAll => 0
  | .setTiming => 3
  | .holdAmendments => 0
  | .applyAmendments => 0
  | .queryPending => 0
  | .discardPending => 1
  | .setMode => 3
  | .reportMode => 1
  | .setEvents => 2
  | .enterStandby => 0
  | .leaveStandby => 0
  | .setCueLine => 3
  | .reportCueLines => 0
  | .reportCondition => 1
  | .reportLock => 0
  | .readEvents => 0
  | .readNotices => 0

/-- Every command, in the order of the command code table (11 R174). -/
def Command.all : List Command :=
  [.createTitle, .amendTitle, .queryTitle, .listTitles, .hitTest, .retireTitle, .resetTitles,
   .arm, .disarm, .start, .leave, .halt, .resume, .rearm, .cutAll,
   .setTiming, .holdAmendments, .applyAmendments, .queryPending, .discardPending,
   .setMode, .reportMode, .setEvents, .enterStandby, .leaveStandby,
   .setCueLine, .reportCueLines, .reportCondition, .reportLock, .readEvents, .readNotices]

/-- The command a command byte names, if any (11 R174, R176). -/
def Command.ofCode (code : Byte) : Option Command :=
  Command.all.find? fun c => c.code == code

/-- The command a table word spells. No row of spec/opcode_table.json has bits, so none does. -/
def decodeTableWord (_nbits _w : Nat) : Option Instr :=
  none

end Sys2Proof
end

