-- ==== Sys2Proof/Machine/Types.lean ====
section
/-! DEFINITION. The types of the blocks' state: what each of the eleven blocks holds, as plain data. -/

namespace Sys2Proof.Machine

open Sys2Proof

/-! ### Sync Qualifier (01) -/

/-- A field's parity (00, "Picture geometry"). -/
inductive Parity
  | a
  | b
deriving DecidableEq, Repr

/-- The line standard the part works to (01 R15). -/
inductive LineStandard
  | s625
  | s525
deriving DecidableEq, Repr

/-- The class of a field length (01 R14). -/
inductive FieldClass
  | c625
  | c525
  | irregular
deriving DecidableEq, Repr

/-- Where the SQ stands in the current CSYNC pulse (01, "The qualifier's state"). -/
inductive PulseState
  | waitHigh
  | idle
  | timing
  | qualified
  | overlong
deriving DecidableEq, Repr

/-- Whether a leading edge fell at a line position (01 R5). -/
inductive PulsePosition
  | atLine
  | offLine
deriving DecidableEq, Repr

/-- The class of a qualified pulse (01 R6). -/
inductive PulseClass
  | eq
  | hs
  | broad
  | overlong
deriving DecidableEq, Repr

/-- A broad run with a run count of 1 or more (01 R8). `expiry` is its run expiry until it is reached (01 R10). -/
structure BroadRun where
  count : Nat
  first : PulsePosition
  last : Timestamp
  recognised : Bool
  expiry : Option Timestamp
deriving DecidableEq, Repr

/-- The state of the Sync Qualifier. A length of `none` is UNKNOWN (01 R14); a run of `none` is run count 0. -/
structure SyncQualifier where
  counter : Timestamp
  pulseState : PulseState
  leading : Timestamp
  filterWidth : Nat
  position : PulsePosition
  hsReference : Option Timestamp
  run : Option BroadRun
  recognition : Option Parity
  lengths : List (Option Nat)
  classes : List FieldClass
  standard : LineStandard
  parity : Parity
deriving DecidableEq, Repr

/-! ### Line Lock Engine (02) -/

/-- The five lock states (02 R19). -/
inductive LockState
  | standby
  | freeRun
  | acquiring
  | locked
  | flywheel
deriving DecidableEq, Repr

/-- The E and the G with which an acceptance gate opened (02 R22). -/
structure GateEdge where
  edge : FineTime
  halfWidth : Nat
deriving DecidableEq, Repr

/-- The state of the Line Lock Engine. `closedLines` is Nc, the N of the field that the latest flywheel field start
closed, which a re-alignment reads (02 R37). -/
structure LineLock where
  lock : LockState
  period : Nat
  edge : FineTime
  gateOpen : Bool
  gateEdge : Option GateEdge
  scheduled : Option Timestamp
  missCount : Nat
  holdCount : Nat
  goodCount : Nat
  edgeSet : List Timestamp
  lastError : Option Int
  y : Nat
  fieldLines : Nat
  closedLines : Nat
  stepTaken : Bool
  synthRun : Nat
  realign : Nat
  paritySure : Bool
  fieldCounter : BitVec 16
  flywheelLines : Nat
  slips : Nat
  verticalMisses : Nat
  irregularFields : Nat
  reportRun : Bool
deriving DecidableEq, Repr

/-! ### Slave Timing Generator (03) -/

/-- The state of the Slave Timing Generator. `chsAt` is the reading at which the awaited CHS falls, once it is
known (03 R46); the CHS output is low while `chsLowUntil` holds the reading at which it returns high. -/
structure SlaveTiming where
  increment : BitVec 32
  linePixTotal : Nat
  accumulator : BitVec 32
  awaiting : Bool
  delayCount : Nat
  lineHdelay : Nat
  chsAt : Option Timestamp
  chsLine : Nat
  sampleCount : Nat
  lineCpixLat : Nat
  cvsDone : Bool
  cvsLow : Bool
  chsLowUntil : Option Timestamp
  hdelay : Nat
  vdelay : Nat
  hphase : Nat
  edgeNow : Bool
  edgeLast : Bool
  sampleDue : Bool
deriving DecidableEq, Repr

/-! ### Title records (04, 05, 06) -/

/-- The parities in which a title may appear (04, item 2). -/
inductive FieldMask
  | both
  | a
  | b
deriving DecidableEq, Repr

/-- The placement part of a record (04 R58). -/
structure Placement where
  prio : Nat
  mask : FieldMask
  top : Nat
  height : Nat
  left : Nat
  width : Nat
deriving DecidableEq, Repr

/-- Key sense (04, item 9). -/
inductive KeySense
  | normal
  | inverse
deriving DecidableEq, Repr

/-- The key and colour part of a record (04 R60). -/
structure KeyPart where
  colour : BitVec 4
  mask : BitVec 4
  sense : KeySense
  bank : Nat
  level : Nat
deriving DecidableEq, Repr

/-- The approaches of WIPE and SLIDE (04, item 13). -/
inductive SideApproach
  | fromLeft
  | fromRight
deriving DecidableEq, Repr

/-- The approaches of RISE (04, item 13). -/
inductive VertApproach
  | fromAbove
  | fromBelow
deriving DecidableEq, Repr

/-- Items 14 to 20, present for any kind but NONE (04 R61). A `rampDown` of 0 is AUTO. -/
structure Ramp where
  course : Nat
  startRate : Nat
  runRate : Nat
  accel : Nat
  decel : Nat
  rampDown : Nat
  creep : Nat
deriving DecidableEq, Repr

/-- The motion part: the kind, with just the items that 04 R61 makes present for it. -/
inductive Motion
  | none
  | fade (ramp : Ramp)
  | wipe (approach : SideApproach) (ramp : Ramp)
  | slide (approach : SideApproach) (ramp : Ramp) (reach : Nat)
  | rise (approach : VertApproach) (ramp : Ramp) (reach : Nat)
deriving DecidableEq, Repr

/-- The start condition, with the start field that only FIELD has (04 R62). -/
inductive StartCond
  | command
  | cue (line : Fin 4)
  | field (number : Nat)
deriving DecidableEq, Repr

/-- The end condition (04, item 25). -/
inductive EndCond
  | dwell
  | cue (line : Fin 4)
  | command
deriving DecidableEq, Repr

/-- The exit (04, item 26). -/
inductive Exit
  | cut
  | fade
  | reverse
deriving DecidableEq, Repr

/-- The leaving manner (04, Runtime). -/
inductive Manner
  | fade
  | reverse
deriving DecidableEq, Repr

/-- The phases in which a title works on the picture and can be held. The leaving manner is present only while
LEAVING, or HELD from LEAVING (04, Runtime). -/
inductive Course
  | entering
  | dwell
  | turning
  | leaving (manner : Manner)
deriving DecidableEq, Repr

/-- How a title ended (05 R92). -/
inductive TitleOutcome
  | completed
  | leftOnCommand
  | wasCut
  | neverShown
deriving DecidableEq, Repr

/-- The phase of a live record, with held-from present only while HELD and the outcome only while DONE (04,
"Identity and phase"). A FREE record is no `Title` at all. -/
inductive Phase
  | dormant
  | armed
  | showing (course : Course)
  | held (heldFrom : Course)
  | done (outcome : TitleOutcome)
deriving DecidableEq, Repr

/-- The marks GO, END and DECEL (04). -/
structure Marks where
  go : Bool
  endMark : Bool
  decel : Bool
deriving DecidableEq, Repr

/-- The displayed geometry (06 R111). Top and left may lie outside the picture. -/
structure Display where
  top : Int
  left : Int
  width : Nat
  level : Nat
deriving DecidableEq, Repr

/-- A live title record (04, 05 R79). -/
structure Title where
  phase : Phase
  marks : Marks
  place : Placement
  key : KeyPart
  motion : Motion
  start : StartCond
  dwell : Nat
  ending : EndCond
  exit : Exit
  exitStep : Nat
  autoRetire : Bool
  travel : Nat
  velocity : Nat
  creepLeft : Nat
  turnPause : Nat
  dwellLeft : Nat
  leavePlanned : Bool
  haltPending : Bool
  byCommand : Bool
  disp : Display
deriving DecidableEq, Repr

/-! ### Amendment Queue (07) -/

/-- A staged amendment (07 R121). Handle 0 names the device. -/
structure Entry where
  handle : Nat
  item : Nat
  value : Nat
deriving DecidableEq, Repr

/-- The state of the Amendment Queue: entries oldest first, and the held flag. -/
structure AmendmentQueue where
  entries : List Entry
  held : Bool
deriving DecidableEq, Repr

/-! ### Span Builder and Keyer, Overlay Palette (08) -/

/-- One title's share of one line (08, "The span list"). -/
structure Span where
  handle : Nat
  xl : Int
  xr : Int
  colour : BitVec 4
  mask : BitVec 4
  sense : KeySense
  bank : Nat
  level : Nat
deriving DecidableEq, Repr

/-- A palette entry (08 R149). -/
structure Colour where
  r : BitVec 6
  g : BitVec 6
  b : BitVec 6
deriving DecidableEq, Repr

/-- A keyed sample: clear (or uncovered, or unkeyed), or opaque through a palette entry at a mix level (08 R144). -/
inductive KeyedSample
  | clear
  | overlaid (entry : Nat) (mix : Nat)
deriving DecidableEq, Repr

/-- The state of the Span Builder and Keyer. `handed` is a sample keyed and not yet driven (08 R147). -/
structure SpanKeyer where
  waiting : Option (List Span)
  waitingMaster : Nat
  keying : List Span
  keyingMaster : Nat
  overflowReported : Bool
  handed : Option KeyedSample
  col : Colour
  mix : Nat
deriving DecidableEq, Repr

/-- Whether a palette cycle loads or reads (08 R150). -/
inductive PaletteDirection
  | load
  | read
deriving DecidableEq, Repr

/-- The component the next palette data access concerns (08 R150). -/
inductive ColourComponent
  | r
  | g
  | b
deriving DecidableEq, Repr

/-- The state of the Overlay Palette. -/
structure Palette where
  entries : List Colour
  cursor : Nat
  direction : PaletteDirection
  component : ColourComponent
  cycleOpen : Bool
  stagedR : Option (BitVec 6)
  stagedG : Option (BitVec 6)
deriving DecidableEq, Repr

/-! ### Cue Line Unit (09) -/

/-- The role of a cue line, with the nominated handle present only while TALLY (09). -/
inductive CueRole
  | input
  | tally (handle : Nat)
deriving DecidableEq, Repr

/-- The qualified level of a cue line (09 R156). -/
inductive QualifiedLevel
  | low
  | high
  | unknown
deriving DecidableEq, Repr

/-- One cue line. -/
structure CueLine where
  role : CueRole
  previous : Option Level
  qualified : QualifiedLevel
deriving DecidableEq, Repr

/-- The four cue lines. -/
structure CueLines where
  c0 : CueLine
  c1 : CueLine
  c2 : CueLine
  c3 : CueLine
deriving DecidableEq, Repr

/-! ### Command Port and Reporting (11) -/

/-- A command in collection with its parameter bytes so far, in the order written (11, "The port"). -/
structure Collecting where
  command : Command
  params : List Byte
deriving DecidableEq, Repr

/-- The completion codes (11 R176). -/
inductive Completion
  | good
  | adjusted
  | check
  | attention
deriving DecidableEq, Repr

/-- The keys of the condition record (11, "The condition record"). -/
inductive ConditionKey
  | none
  | adjusted
  | illegalRequest
  | wrongPhase
  | resource
  | notInStandby
  | wrongState
  | attention
deriving DecidableEq, Repr

/-- The attention reasons (11 R179). -/
structure Attention where
  powerOn : Bool
  pinReset : Bool
  standardChanged : Bool
deriving DecidableEq, Repr

/-- The condition record (11 R177). -/
structure Condition where
  completion : Completion
  key : ConditionKey
  code : Nat
  handle : Nat
  param : Nat
  reasons : Attention
  lastCommand : Byte
  fieldCounter : BitVec 16
  occupancy : Nat
deriving DecidableEq, Repr

/-- The event kinds (11, "Events and INT"). -/
inductive EventKind
  | lockGained
  | lockLost
  | slip
  | standardChanged
  | fieldIrregular
  | spanOverflow
  | queueDrained
  | titleActivity
  | cue (line : Fin 4)
deriving DecidableEq, Repr

/-- An event set in the layout of 11, "Sets": the host reads and writes it whole. -/
abbrev EventSet := BitVec 16

/-- The notices (11, "Notices"). -/
inductive Notice
  | started
  | entered
  | left
  | done
  | dropped
deriving DecidableEq, Repr

/-- The notice set of one handle. -/
structure NoticeSet where
  started : Bool
  entered : Bool
  left : Bool
  done : Bool
  dropped : Bool
deriving DecidableEq, Repr

/-- The state of the Command Port and Reporting block. -/
structure CommandPort where
  collecting : Option Collecting
  results : List Byte
  portFault : Bool
  condition : Condition
  attention : Attention
  enables : EventSet
  events : EventSet
  notices : List NoticeSet
  readData : Option Byte
deriving DecidableEq, Repr

/-! ### Settings (10) and pins (00) -/

/-- The STANDARD setting (10, item 1). -/
inductive StandardSetting
  | auto
  | force625
  | force525
deriving DecidableEq, Repr

/-- The REFERENCE setting (10, item 2). -/
inductive Reference
  | lock
  | internal
deriving DecidableEq, Repr

/-- The thirteen operating settings (10, items 1 to 13). -/
structure Settings where
  standard : StandardSetting
  reference : Reference
  pixTotal : Nat
  filter : Nat
  hspan : Nat
  kp : Nat
  kf : Nat
  gate : Nat
  window : Nat
  slipLimit : Nat
  holdLimit : Nat
  masterLevel : Nat
  cpixLat : Nat
deriving DecidableEq, Repr

/-- The input pins whose level the part keeps reading. -/
structure Pins where
  resetLow : Bool
  csync : Level
  cpix : BitVec 4
  cues : CueLevels
deriving DecidableEq, Repr

end Sys2Proof.Machine
end

