-- ==== Sys2Proof/Machine/Initial.lean ====
section
/-! DEFINITION. The values each block takes after power-on and after a pin reset (01 R18, 02 R43, 03 R56, 04 R78,
07 R121, 08 R148 and R154, 09 R162, 10 R170, 11 R185). -/

namespace Sys2Proof.Machine

open Sys2Proof

/-- 01 R2, R18: the pulse state by the level of CSYNC when a reset ends. -/
def pulseStateAt : Level → PulseState
  | .low => .waitHigh
  | .high => .idle

/-- 01 R18. The items of a current pulse have no value there: DESIGN CHOICE (log 7). -/
def SyncQualifier.initial (csync : Level) : SyncQualifier where
  counter := 0
  pulseState := pulseStateAt csync
  leading := 0
  filterWidth := 16
  position := .offLine
  hsReference := none
  run := none
  recognition := none
  lengths := []
  classes := []
  standard := .s625
  parity := .a

/-- 02 R43. Nc has no value there: DESIGN CHOICE (log 7). -/
def LineLock.initial : LineLock where
  lock := .standby
  period := 524288
  edge := 524288
  gateOpen := false
  gateEdge := none
  scheduled := none
  missCount := 0
  holdCount := 0
  goodCount := 0
  edgeSet := []
  lastError := none
  y := 0
  fieldLines := 0
  closedLines := 0
  stepTaken := false
  synthRun := 0
  realign := 0
  paritySure := false
  fieldCounter := 0
  flywheelLines := 0
  slips := 0
  verticalMisses := 0
  irregularFields := 0
  reportRun := false

/-- 03 R56. -/
def SlaveTiming.initial : SlaveTiming where
  increment := 1342177280
  linePixTotal := 640
  accumulator := 0
  awaiting := false
  delayCount := 0
  lineHdelay := 0
  chsAt := none
  chsLine := 0
  sampleCount := 0
  lineCpixLat := 2
  cvsDone := true
  cvsLow := false
  chsLowUntil := none
  hdelay := 0
  vdelay := 0
  hphase := 0
  edgeNow := false
  edgeLast := false
  sampleDue := false

/-- 04 R78: all 24 records FREE. -/
def initialTitles : List (Option Title) :=
  List.replicate 24 none

/-- 07 R121. -/
def AmendmentQueue.initial : AmendmentQueue where
  entries := []
  held := false

/-- The colour 0, 0, 0 (08 R146, R149). -/
def Colour.black : Colour where
  r := 0
  g := 0
  b := 0

/-- 08 R148, with the colour COL carries, palette entry 0. -/
def SpanKeyer.initial (col : Colour) : SpanKeyer where
  waiting := none
  waitingMaster := 63
  keying := []
  keyingMaster := 63
  overflowReported := false
  handed := none
  col := col
  mix := 0

/-- 08 R154, over the entries that the reset leaves. -/
def Palette.initial (entries : List Colour) : Palette where
  entries := entries
  cursor := 0
  direction := .load
  component := .r
  cycleOpen := true
  stagedR := none
  stagedG := none

/-- 08 R149: after power-on every entry holds 0, 0, 0. -/
def blackEntries : List Colour :=
  List.replicate 64 Colour.black

/-- 09 R162. -/
def CueLine.initial : CueLine where
  role := .input
  previous := none
  qualified := .unknown

/-- 09 R162, all four lines. -/
def CueLines.initial : CueLines where
  c0 := CueLine.initial
  c1 := CueLine.initial
  c2 := CueLine.initial
  c3 := CueLine.initial

/-- No attention reason. -/
def Attention.empty : Attention where
  powerOn := false
  pinReset := false
  standardChanged := false

/-- No notice. -/
def NoticeSet.empty : NoticeSet where
  started := false
  entered := false
  left := false
  done := false
  dropped := false

/-- 11 R177: the record after power-on and pin reset. -/
def Condition.initial : Condition where
  completion := .good
  key := .none
  code := 0
  handle := 0
  param := 0
  reasons := Attention.empty
  lastCommand := 0
  fieldCounter := 0
  occupancy := 0

/-- 11 R185, with the attention reason of the reset (11 R179). -/
def CommandPort.initial (attention : Attention) : CommandPort where
  collecting := none
  results := []
  portFault := false
  condition := Condition.initial
  attention := attention
  enables := 0
  events := 0
  notices := List.replicate 24 NoticeSet.empty
  readData := none

/-- 10 R170: every setting at its default. -/
def Settings.defaults : Settings where
  standard := .auto
  reference := .lock
  pixTotal := 640
  filter := 16
  hspan := 2048
  kp := 2
  kf := 6
  gate := 48
  window := 8
  slipLimit := 4
  holdLimit := 32
  masterLevel := 63
  cpixLat := 2

/-- The pins at reset: RESET high; the levels driven from outside are a DESIGN CHOICE (log 7). -/
def Pins.initial : Pins where
  resetLow := false
  csync := .high
  cpix := 0
  cues := { c0 := .high, c1 := .high, c2 := .high, c3 := .high }

end Sys2Proof.Machine
end

