-- ==== Sys2Proof/Machine/State.lean ====
section
/-! DEFINITION. The state of the part, the reasons a step can stop, and the state after reset. -/

namespace Sys2Proof.Machine

open Sys2Proof

/-- Why a step stops. Both are raised for an event that cannot occur in the part, so no behaviour of the part is
lost: safe (log 3). -/
inductive Fault
  /-- Raised by a clock event (an expiry, a gate, a line start, a sample, a CHS or its end) that is sent while its
  rule does not make it due. Safe. -/
  | eventNotDue
  /-- Raised by a CSYNC edge toward the level that CSYNC already has: "an event that cannot occur in that state"
  (01, "The pulse state in summary"). Safe. -/
  | edgeCannotOccur
deriving DecidableEq, Repr

/-- Why a command has no meaning. No arm of `exec` is refused in this model. -/
inductive Refusal
  /-- Raised by an arm of `exec` whose command has no meaning yet. Safe. -/
  | notModelled (mnemonic : String)
deriving DecidableEq, Repr

/-- The whole state: the blocks of 00, "Block diagram" (the TS and the MU keep theirs in the title records), the
settings, the pins, the count of free values used (log 4), and the commands that wait, first in, first out. -/
structure State where
  sq : SyncQualifier
  lle : LineLock
  stg : SlaveTiming
  titles : List (Option Title)
  aq : AmendmentQueue
  sbk : SpanKeyer
  op : Palette
  clu : CueLines
  cpr : CommandPort
  settings : Settings
  pins : Pins
  freeIndex : Nat
  pending : List Instr
deriving DecidableEq, Repr

/-- The part right after power-on (10 R170 and the tables it gathers), with CSYNC high and nothing waiting. -/
def State.reset : State where
  sq := SyncQualifier.initial .high
  lle := LineLock.initial
  stg := SlaveTiming.initial
  titles := initialTitles
  aq := AmendmentQueue.initial
  sbk := SpanKeyer.initial Colour.black
  op := Palette.initial blackEntries
  clu := CueLines.initial
  cpr := CommandPort.initial { Attention.empty with powerOn := true }
  settings := Settings.defaults
  pins := Pins.initial
  freeIndex := 0
  pending := []

end Sys2Proof.Machine
end

