-- ==== Sys2Proof/Machine/Operands.lean ====
section
/-! DEFINITION. Operands: numbered parameter bytes, clamps, choice codes, and values split into bytes
(04, "Choice codes"; 11, "Byte layouts"). -/

namespace Sys2Proof.Machine

open Sys2Proof

/-- Parameter byte `k`, numbered from 1 in the order written (11 R174). -/
def byteAt (params : List Byte) (k : Nat) : Nat :=
  (params.getD (k - 1) 0).toNat

/-- A two-byte parameter that begins at byte `k`, low byte first (11 R174). -/
def wordAt (params : List Byte) (k : Nat) : Nat :=
  byteAt params k + 256 * byteAt params (k + 1)

/-- A value below a range is raised to its lowest value, one above it lowered to its highest (04 R58). -/
def clamp (lo hi v : Nat) : Nat :=
  max lo (min v hi)

/-- The low byte of a value. -/
def byteOf (n : Nat) : Byte :=
  BitVec.ofNat 8 n

/-- A two-byte field, low byte first (11, "Byte layouts"). -/
def wordBytes (n : Nat) : List Byte :=
  [byteOf n, byteOf (n / 256)]

/-- A signed two-byte field, two's complement, low byte first. -/
def signedWordBytes (i : Int) : List Byte :=
  wordBytes (BitVec.ofInt 16 i).toNat

/-- A three-byte field, low byte first. -/
def tripleBytes (n : Nat) : List Byte :=
  [byteOf n, byteOf (n / 256), byteOf (n / 65536)]

/-- A NO/YES field: NO 0, YES 1. -/
def boolCode (b : Bool) : Nat :=
  if b then 1 else 0

/-! ### Choice codes (04, "Choice codes") -/

def FieldMask.ofCode : Nat → Option FieldMask
  | 0 => some .both
  | 1 => some .a
  | 2 => some .b
  | _ => none

def FieldMask.code : FieldMask → Nat
  | .both => 0
  | .a => 1
  | .b => 2

def KeySense.ofCode : Nat → Option KeySense
  | 0 => some .normal
  | 1 => some .inverse
  | _ => none

def KeySense.code : KeySense → Nat
  | .normal => 0
  | .inverse => 1

/-- Approach codes FROM-LEFT 0 and FROM-RIGHT 1, the choices of WIPE and SLIDE. -/
def SideApproach.ofCode : Nat → Option SideApproach
  | 0 => some .fromLeft
  | 1 => some .fromRight
  | _ => none

def SideApproach.code : SideApproach → Nat
  | .fromLeft => 0
  | .fromRight => 1

/-- Approach codes FROM-ABOVE 2 and FROM-BELOW 3, the choices of RISE. -/
def VertApproach.ofCode : Nat → Option VertApproach
  | 2 => some .fromAbove
  | 3 => some .fromBelow
  | _ => none

def VertApproach.code : VertApproach → Nat
  | .fromAbove => 2
  | .fromBelow => 3

/-- Cue lines by the codes CUE0 1 to CUE3 4 of a start or end condition. -/
def cueOfCode : Nat → Option (Fin 4)
  | 1 => some 0
  | 2 => some 1
  | 3 => some 2
  | 4 => some 3
  | _ => none

/-- A start condition from its code; `number` is the start field it takes when it is FIELD. -/
def StartCond.ofCode (number : Nat) : Nat → Option StartCond
  | 0 => some .command
  | 5 => some (.field number)
  | c => (cueOfCode c).map StartCond.cue

def StartCond.code : StartCond → Nat
  | .command => 0
  | .cue n => n.val + 1
  | .field _ => 5

def EndCond.ofCode : Nat → Option EndCond
  | 0 => some .dwell
  | 5 => some .command
  | c => (cueOfCode c).map EndCond.cue

def EndCond.code : EndCond → Nat
  | .dwell => 0
  | .cue n => n.val + 1
  | .command => 5

def Exit.ofCode : Nat → Option Exit
  | 0 => some .cut
  | 1 => some .fade
  | 2 => some .reverse
  | _ => none

def Exit.code : Exit → Nat
  | .cut => 0
  | .fade => 1
  | .reverse => 2

/-- Auto-retire codes NO 0, YES 1. -/
def flagOfCode : Nat → Option Bool
  | 0 => some false
  | 1 => some true
  | _ => none

def Parity.ofCode : Nat → Option Parity
  | 0 => some .a
  | 1 => some .b
  | _ => none

def Parity.code : Parity → Nat
  | .a => 0
  | .b => 1

def Motion.kindCode : Motion → Nat
  | .none => 0
  | .fade _ => 1
  | .wipe _ _ => 2
  | .slide _ _ _ => 3
  | .rise _ _ _ => 4

def Motion.approachCode : Motion → Option Nat
  | .none => Option.none
  | .fade _ => Option.none
  | .wipe a _ => some a.code
  | .slide a _ _ => some a.code
  | .rise a _ _ => some a.code

def Course.phaseCode : Course → Nat
  | .entering => 3
  | .dwell => 5
  | .turning => 6
  | .leaving _ => 7

/-- Phase codes (04, "Choice codes"); FREE, 0, is the code of no title. -/
def Phase.code : Phase → Nat
  | .dormant => 1
  | .armed => 2
  | .showing c => c.phaseCode
  | .held _ => 4
  | .done _ => 8

/-- The phase code of a record: 0 when it is FREE. -/
def phaseCodeOf : Option Title → Nat
  | none => 0
  | some t => t.phase.code

def TitleOutcome.code : TitleOutcome → Nat
  | .completed => 0
  | .leftOnCommand => 1
  | .wasCut => 2
  | .neverShown => 3

def Manner.code : Manner → Nat
  | .fade => 0
  | .reverse => 1

/-- The lock state codes (10, "The STANDBY state"). -/
def LockState.code : LockState → Nat
  | .standby => 0
  | .freeRun => 1
  | .acquiring => 2
  | .locked => 3
  | .flywheel => 4

/-- The working standard in REPORT LOCK: 625 is 1, 525 is 2. -/
def LineStandard.code : LineStandard → Nat
  | .s625 => 1
  | .s525 => 2

def StandardSetting.ofCode : Nat → Option StandardSetting
  | 0 => some .auto
  | 1 => some .force625
  | 2 => some .force525
  | _ => none

def StandardSetting.code : StandardSetting → Nat
  | .auto => 0
  | .force625 => 1
  | .force525 => 2

def Reference.ofCode : Nat → Option Reference
  | 0 => some .lock
  | 1 => some .internal
  | _ => none

def Reference.code : Reference → Nat
  | .lock => 0
  | .internal => 1

def QualifiedLevel.code : QualifiedLevel → Nat
  | .low => 0
  | .high => 1
  | .unknown => 2

def Completion.code : Completion → Byte
  | .good => 0x00
  | .adjusted => 0x01
  | .check => 0x02
  | .attention => 0x04

def ConditionKey.code : ConditionKey → Nat
  | .none => 0
  | .adjusted => 1
  | .illegalRequest => 2
  | .wrongPhase => 3
  | .resource => 4
  | .notInStandby => 5
  | .wrongState => 6
  | .attention => 7

/-- Codes of key ILLEGAL REQUEST and of key RESOURCE (11 R177). -/
def codeUnknownCommand : Nat := 1
def codeNoSuchTitle : Nat := 2
def codeBadItem : Nat := 3
def codeBadChoice : Nat := 4
def codeTableFull : Nat := 1
def codeQueueFull : Nat := 2

end Sys2Proof.Machine
end

