-- ==== Sys2Proof/Machine/Flags.lean ====
section
/-! DEFINITION. Flags and sets: the event sets, the notice sets, marks and reasons as bytes, the status byte, and
the outputs that follow from state (11, "Sets" and "Status byte"; log 10). -/

namespace Sys2Proof.Machine

open Sys2Proof

/-- The bit of an event kind (11, "Sets"). -/
def EventKind.bit : EventKind → Nat
  | .lockGained => 0
  | .lockLost => 1
  | .slip => 2
  | .standardChanged => 3
  | .fieldIrregular => 4
  | .spanOverflow => 5
  | .queueDrained => 6
  | .titleActivity => 7
  | .cue n => 8 + n.val

/-- Whether a kind is in an event set. -/
def EventSet.has (e : EventSet) (k : EventKind) : Bool :=
  e.getLsbD k.bit

/-- An event set with a kind added. -/
def EventSet.with (e : EventSet) (k : EventKind) : EventSet :=
  e ||| BitVec.twoPow 16 k.bit

/-- An event set with a kind taken out. -/
def EventSet.without (e : EventSet) (k : EventKind) : EventSet :=
  e &&& ~~~(BitVec.twoPow 16 k.bit)

def NoticeSet.add (n : NoticeSet) : Notice → NoticeSet
  | .started => { n with started := true }
  | .entered => { n with entered := true }
  | .left => { n with left := true }
  | .done => { n with done := true }
  | .dropped => { n with dropped := true }

def NoticeSet.has (n : NoticeSet) : Notice → Bool
  | .started => n.started
  | .entered => n.entered
  | .left => n.left
  | .done => n.done
  | .dropped => n.dropped

def NoticeSet.isEmpty (n : NoticeSet) : Bool :=
  n == NoticeSet.empty

/-- A notice set in one byte (11, "Sets"). -/
def NoticeSet.code (n : NoticeSet) : Nat :=
  boolCode n.started + 2 * boolCode n.entered + 4 * boolCode n.left + 8 * boolCode n.done
    + 16 * boolCode n.dropped

def Marks.empty : Marks where
  go := false
  endMark := false
  decel := false

def Marks.code (m : Marks) : Nat :=
  boolCode m.go + 2 * boolCode m.endMark + 4 * boolCode m.decel

def Attention.any (a : Attention) : Bool :=
  a.powerOn || a.pinReset || a.standardChanged

def Attention.union (a b : Attention) : Attention where
  powerOn := a.powerOn || b.powerOn
  pinReset := a.pinReset || b.pinReset
  standardChanged := a.standardChanged || b.standardChanged

def Attention.code (a : Attention) : Nat :=
  boolCode a.powerOn + 2 * boolCode a.pinReset + 4 * boolCode a.standardChanged

/-- The showing phases: ENTERING, HELD, DWELL, TURNING and LEAVING (04 R57). -/
def Phase.isShowing : Phase → Bool
  | .dormant => false
  | .armed => false
  | .showing _ => true
  | .held _ => true
  | .done _ => false

/-- The lock states in which each line has an acceptance gate (02 R22). -/
def LockState.gated : LockState → Bool
  | .standby => false
  | .freeRun => false
  | .acquiring => true
  | .locked => true
  | .flywheel => true

/-- The LOCKED flag: the lock state is LOCKED or FLYWHEEL (02 R19). -/
def LockState.lockedFlag : LockState → Bool
  | .standby => false
  | .freeRun => false
  | .acquiring => false
  | .locked => true
  | .flywheel => true

def Parity.other : Parity → Parity
  | .a => .b
  | .b => .a

/-- The status byte (11 R172 and "Status byte"). -/
def State.statusByte (s : State) : Byte :=
  byteOf (boolCode s.cpr.collecting.isSome + 2 * boolCode (!s.cpr.results.isEmpty)
    + 4 * boolCode s.cpr.portFault + 8 * boolCode (s.cpr.condition.key != .none)
    + 16 * boolCode s.cpr.attention.any + 32 * boolCode (s.cpr.events != 0)
    + 64 * boolCode (s.lle.lock == .standby) + 128 * boolCode s.lle.lock.lockedFlag)

/-- INT is low exactly while some kind is pending, and released while RESET is low (11 R171, R182). -/
def State.intLow (s : State) : Bool :=
  !s.pins.resetLow && s.cpr.events != 0

/-- CFLD: low for A, high for B, low while RESET is low (03 R51, R56). -/
def State.cfld (s : State) : Level :=
  if s.pins.resetLow || s.sq.parity == .a then .low else .high

/-- PXCK is high for the cc of a carry and the cc that follows it (03 R45). -/
def State.pxck (s : State) : Level :=
  if s.stg.edgeNow || s.stg.edgeLast then .high else .low

/-- The CHS output (03 R46). -/
def State.chsOut (s : State) : Level :=
  if s.stg.chsLowUntil.isSome then .low else .high

/-- The CVS output (03 R50). -/
def State.cvsOut (s : State) : Level :=
  if s.stg.cvsLow then .low else .high

end Sys2Proof.Machine
end

