-- ==== Sys2Proof/Machine/Ops.lean ====
section
/-! DEFINITION. The shared operations over the state: readings of the counter, the title table, the notice store,
events, cue lines, and freeing. -/

namespace Sys2Proof.Machine

open Sys2Proof

/-! ### Readings of the counter -/

/-- The forward distance from one timestamp to a later one (01 R1). -/
def forward (earlier later : Timestamp) : Nat :=
  (later - earlier).toNat

/-- Whether the counter has reached a reading: it is not more than half a turn behind it (log 16). -/
def reached (now due : Timestamp) : Bool :=
  decide ((now - due).toNat < 2 ^ 23)

/-- A timestamp on the scale of E: 256 × t (02 R20). -/
def fine (t : Timestamp) : FineTime :=
  BitVec.ofNat 32 (256 * t.toNat)

/-- The counter reading of the whole part of a time in 1/256 cc (02 R20). -/
def wholePart (e : FineTime) : Timestamp :=
  BitVec.ofNat 24 (e.toNat / 256)

/-- The signed difference of two times in 1/256 cc (02 R20). -/
def signedGap (x y : FineTime) : Int :=
  (x - y).toInt

/-- The counter as it stands. -/
def State.now (s : State) : Timestamp :=
  s.sq.counter

/-! ### The title table -/

/-- The handles, 1 to 24. -/
def handles : List Nat :=
  List.range' 1 24

/-- The live record of a handle; `none` for a FREE record and for a number that is no handle (04 R76). -/
def State.title (s : State) (h : Nat) : Option Title :=
  if h = 0 then none else (s.titles[h - 1]?).join

/-- The record of handle `h` put in place. -/
def State.setTitle (s : State) (h : Nat) (t : Option Title) : State :=
  if h = 0 then s else { s with titles := s.titles.set (h - 1) t }

/-- The lowest-numbered handle whose record is FREE (04 R65). -/
def State.lowestFree (s : State) : Option Nat :=
  handles.find? fun h => decide (h ≤ s.titles.length) && (s.title h).isNone

/-! ### Events and notices -/

/-- An event raised to the CPR becomes pending if its enable is set at that moment (11 R182). -/
def State.raise (s : State) (k : EventKind) : State :=
  { s with cpr := { s.cpr with
      events := if s.cpr.enables.has k then s.cpr.events.with k else s.cpr.events } }

/-- The notice set of a handle. -/
def State.noticeSet (s : State) (h : Nat) : NoticeSet :=
  if h = 0 then NoticeSet.empty else s.cpr.notices.getD (h - 1) NoticeSet.empty

/-- A handle's notice set put in place. -/
def State.setNotices (s : State) (h : Nat) (n : NoticeSet) : State :=
  if h = 0 then s else { s with cpr := { s.cpr with notices := s.cpr.notices.set (h - 1) n } }

/-- A notice is added to its handle's set, and TITLE ACTIVITY is raised (05 R100). -/
def State.notify (s : State) (h : Nat) (n : Notice) : State :=
  (s.setNotices h ((s.noticeSet h).add n)).raise .titleActivity

/-- Several notices of one handle. -/
def State.notifyAll (s : State) (h : Nat) (ns : List Notice) : State :=
  ns.foldl (fun s n => s.notify h n) s

/-- Whether the notice store holds no notice. -/
def State.noNotices (s : State) : Bool :=
  s.cpr.notices.all NoticeSet.isEmpty

/-- Whenever the store becomes empty, TITLE ACTIVITY leaves the pending set (11 R184). -/
def State.settleActivity (s : State) : State :=
  if s.noNotices then
    { s with cpr := { s.cpr with events := s.cpr.events.without .titleActivity } }
  else s

/-- A handle's notice set emptied (04 R66, R72). -/
def State.clearNotices (s : State) (h : Nat) : State :=
  (s.setNotices h NoticeSet.empty).settleActivity

/-- Every notice set emptied (04 R75, 11 R184). -/
def State.clearAllNotices (s : State) : State :=
  { s with cpr := { s.cpr with
      notices := s.cpr.notices.map fun _ => NoticeSet.empty
      events := s.cpr.events.without .titleActivity } }

/-! ### Cue lines -/

def CueLines.get (c : CueLines) (n : Fin 4) : CueLine :=
  match n with
  | 0 => c.c0
  | 1 => c.c1
  | 2 => c.c2
  | 3 => c.c3

def CueLines.put (c : CueLines) (n : Fin 4) (l : CueLine) : CueLines :=
  match n with
  | 0 => { c with c0 := l }
  | 1 => { c with c1 := l }
  | 2 => { c with c2 := l }
  | 3 => { c with c3 := l }

/-- All four lines changed alike. -/
def CueLines.map (c : CueLines) (f : CueLine → CueLine) : CueLines where
  c0 := f c.c0
  c1 := f c.c1
  c2 := f c.c2
  c3 := f c.c3

def cueLevel (c : CueLevels) (n : Fin 4) : Level :=
  match n with
  | 0 => c.c0
  | 1 => c.c1
  | 2 => c.c2
  | 3 => c.c3

/-- A line whose role changes has its level taken again from scratch (09 R160). -/
def CueLine.retaken (role : CueRole) : CueLine where
  role := role
  previous := none
  qualified := .unknown

/-- A line that nominates `h` returns to INPUT (04 R71, 09 R160). -/
def CueLine.release (h : Nat) (l : CueLine) : CueLine :=
  if l.role = .tally h then CueLine.retaken .input else l

/-- The drive of a cue line: LOW while the nominated title is in a showing phase, and released while RESET is
low (09 R158, R162). -/
def State.driveLow (s : State) (n : Fin 4) : Bool :=
  match (s.clu.get n).role with
  | .input => false
  | .tally h =>
    match s.title h with
    | none => false
    | some t => !s.pins.resetLow && t.phase.isShowing

/-- The level on a cue line: the part's own drive wired with what is outside (09, "The unit's state"). -/
def State.cuePin (s : State) (n : Fin 4) : Level :=
  if s.driveLow n then .low else cueLevel s.pins.cues n

/-! ### Freeing a record (04 R71, R72) -/

/-- The part of freeing that does not touch the notice set: the record becomes FREE, the queue loses the handle's
entries, and the lines that nominate it return to INPUT (04 R71). -/
def State.freeRecord (s : State) (h : Nat) : State :=
  let s1 := s.setTitle h none
  { s1 with
    aq := { s1.aq with entries := s1.aq.entries.filter fun e => e.handle != h }
    clu := s1.clu.map (CueLine.release h) }

/-- A record freed by RETIRE TITLE IMMEDIATE: its notice set is emptied (04 R72). -/
def State.freeAndForget (s : State) (h : Nat) : State :=
  (s.freeRecord h).clearNotices h

/-- What the TS leaves of a title: the record is put in place and its notices are raised. A title that has just
reached DONE with auto-retire YES is freed, its notice set kept (05 R92, 04 R72). -/
def State.settleTitle (s : State) (h : Nat) (r : Title × List Notice) : State :=
  let s1 := (s.setTitle h (some r.1)).notifyAll h r.2
  if r.2.contains .done && r.1.autoRetire then s1.freeRecord h else s1

end Sys2Proof.Machine
end

