-- ==== Sys2Proof/Machine/Motion.lean ====
section
/-! DEFINITION. The Motion Unit (06): the motion step and the displayed geometry. -/

namespace Sys2Proof.Machine

open Sys2Proof

/-- Items 14 to 20, if the kind has them (04 R61). -/
def Motion.ramp : Motion → Option Ramp
  | .none => Option.none
  | .fade r => some r
  | .wipe _ r => some r
  | .slide _ r _ => some r
  | .rise _ r _ => some r

/-- The motion part with its ramp replaced; kind NONE has none to replace. -/
def Motion.withRamp (m : Motion) (r : Ramp) : Motion :=
  match m with
  | .none => .none
  | .fade _ => .fade r
  | .wipe a _ => .wipe a r
  | .slide a _ reach => .slide a r reach
  | .rise a _ reach => .rise a r reach

def Motion.isNone : Motion → Bool
  | .none => true
  | .fade _ => false
  | .wipe _ _ => false
  | .slide _ _ _ => false
  | .rise _ _ _ => false

/-- The course D, 0 for kind NONE. -/
def Motion.course (m : Motion) : Nat :=
  match m.ramp with
  | Option.none => 0
  | some r => r.course

/-! ### Displayed geometry -/

/-- floor(full × T / D), with the fraction taken as 1 for a course of 0 (06 R111). -/
def grown (full travel course : Nat) : Nat :=
  if course = 0 then full else full * travel / course

/-- The offset floor(reach × (D − T) / D), 0 for a course of 0 (06 R114, R115). -/
def offsetOf (reach travel course : Nat) : Nat :=
  if course = 0 then 0 else reach * (course - travel) / course

/-- The displayed geometry by the formula of the record's kind (06 R111 to R115). -/
def Title.formula (t : Title) : Display :=
  let own : Display :=
    { top := t.place.top, left := t.place.left, width := t.place.width, level := t.key.level }
  match t.motion with
  | .none => own
  | .fade r => { own with level := grown t.key.level t.travel r.course }
  | .wipe .fromLeft r => { own with width := grown t.place.width t.travel r.course }
  | .wipe .fromRight r =>
    let w := grown t.place.width t.travel r.course
    { own with width := w, left := (t.place.left : Int) + t.place.width - w }
  | .slide .fromLeft r reach => { own with left := (t.place.left : Int) - offsetOf reach t.travel r.course }
  | .slide .fromRight r reach => { own with left := (t.place.left : Int) + offsetOf reach t.travel r.course }
  | .rise .fromBelow r reach => { own with top := (t.place.top : Int) + offsetOf reach t.travel r.course }
  | .rise .fromAbove r reach => { own with top := (t.place.top : Int) - offsetOf reach t.travel r.course }

/-- Whether the displayed level belongs to a fade: leaving manner FADE, LEAVING or HELD from it (06 R116). -/
def Phase.isFading : Phase → Bool
  | .showing (.leaving .fade) => true
  | .held (.leaving .fade) => true
  | _ => false

/-- The displayed geometry computed again (06 R111), a fade keeping its level (06 R116). -/
def Title.redisplay (t : Title) : Title :=
  if t.phase.isFading then { t with disp := { t.formula with level := t.disp.level } }
  else { t with disp := t.formula }

/-! ### The velocity -/

/-- Vr′ = max(Vr, Vs) (06 R103). -/
def Ramp.effectiveRun (r : Ramp) : Nat :=
  max r.runRate r.startRate

/-- Σ for k from 1 to n of max(Vs, v − k × Dc) (06 R103). -/
def Ramp.slowingSum (r : Ramp) (v : Nat) : Nat → Nat
  | 0 => 0
  | n + 1 => r.slowingSum v n + max r.startRate (v - (n + 1) * r.decel)

/-- The stopping distance S(v) (06 R103); the number of terms is (v − Vs) / Dc rounded up. -/
def Ramp.stopping (r : Ramp) (v : Nat) : Nat :=
  if v ≤ r.startRate then 0
  else r.slowingSum v ((v - r.startRate + r.decel - 1) / r.decel)

/-- The threshold of the deceleration test: S(v_prev) under AUTO, else the manual ramp-down (06 R104). -/
def Ramp.threshold (r : Ramp) (v : Nat) : Nat :=
  if r.rampDown = 0 then r.stopping v else r.rampDown

/-- Cases c, d and e of 06 R105: toward the run rate. -/
def Ramp.towardRun (r : Ramp) (v : Nat) : Nat :=
  if v < r.effectiveRun then
    if v = 0 then r.startRate else min r.effectiveRun (max r.startRate (v + r.accel))
  else if r.effectiveRun < v then max r.effectiveRun (v - r.decel)
  else r.effectiveRun

/-! ### The motion step -/

/-- Whether a title moves backward along its course: LEAVING by REVERSE (06 R102). -/
def Title.backward (t : Title) : Bool :=
  t.phase == .showing (.leaving .reverse)

/-- The remaining course R (06 R102). -/
def Title.remaining (t : Title) : Nat :=
  if t.backward then t.travel else t.motion.course - t.travel

/-- Case a of 06 R105: a creep step. -/
def Title.creeping (t : Title) : Bool :=
  t.phase == .showing .entering && decide (0 < t.creepLeft)

/-- Whether the DECEL mark stands after the deceleration test of this step (06 R104): a creep step makes no test
(06 R106), and a mark already set stays. The test is also made in TURNING (log 12). -/
def Title.decelAfterTest (t : Title) (r : Ramp) : Bool :=
  if t.creeping then t.marks.decel
  else t.marks.decel || decide (t.remaining ≤ r.threshold t.velocity)

/-- The velocity chosen for a step (06 R105). -/
def Title.chosenVelocity (t : Title) (r : Ramp) : Nat :=
  if t.creeping then r.startRate
  else if t.decelAfterTest r || t.phase == .showing .turning then max r.startRate (t.velocity - r.decel)
  else r.towardRun t.velocity

/-- What a motion step leaves and reports to the TS (06 R102): whether the remaining course has reached 0, and
whether the velocity chosen equals Vs. -/
structure MotionResult where
  title : Title
  complete : Bool
  atStartRate : Bool
deriving DecidableEq, Repr

/-- One motion step (06 R102 to R108). A title of kind NONE is never stepped (06 R102); nothing moves. -/
def motionStep (t : Title) : MotionResult :=
  match t.motion.ramp with
  | none => { title := t, complete := true, atStartRate := true }
  | some r =>
    let v := t.chosenVelocity r
    let dist := min v t.remaining
    let complete := decide (t.remaining - dist = 0)
    let moved : Title :=
      { t with
        marks := { t.marks with decel := t.decelAfterTest r }
        velocity := v
        travel := if t.backward then t.travel - dist else t.travel + dist
        creepLeft := if complete then 0 else if t.creeping then t.creepLeft - 1 else t.creepLeft }
    { title := moved.redisplay, complete := complete, atStartRate := decide (v = r.startRate) }

end Sys2Proof.Machine
end

