-- ==== Sys2Proof/Machine/Sequencer.lean ====
section
/-! DEFINITION. The Title Sequencer (05): the work of one title at a field step and at a command. Each function
gives the record afterwards and the notices raised. -/

namespace Sys2Proof.Machine

open Sys2Proof

/-- A record and the notices its work raises. -/
abbrev TitleWork := Title × List Notice

/-- Entry to DONE (05 R92): the marks are cleared, held-from, leaving manner and turn pause are gone, and T, v and
the displayed geometry stay. The caller raises DONE. -/
def Title.ended (t : Title) (o : TitleOutcome) : Title :=
  { t with
    phase := .done o
    marks := Marks.empty
    turnPause := 0
    leavePlanned := false
    haltPending := false
    byCommand := false }

/-- The end of a leave (05 R92). -/
def Title.leaveEnds (t : Title) (notices : List Notice) : TitleWork :=
  (t.ended (if t.byCommand then .leftOnCommand else .completed), notices ++ [.done])

/-- Entry to HELD from a phase (05 R94, R95). -/
def Title.heldFrom (t : Title) (c : Course) : Title :=
  { t with
    phase := .held c
    velocity := 0
    haltPending := false
    marks := { t.marks with decel := false } }

/-- A drop of a fade (05 R89). -/
def fadeStep (t : Title) (notices : List Notice) : TitleWork :=
  let level := t.disp.level - t.exitStep
  let t1 : Title := { t with disp := { t.disp with level := level } }
  if level = 0 then t1.leaveEnds notices else (t1, notices)

/-- A step of a reversal (05 R90). -/
def reverseStep (t : Title) (notices : List Notice) : TitleWork :=
  let m := motionStep t
  if m.title.travel = 0 then m.title.leaveEnds notices
  else if t.haltPending && m.atStartRate then (m.title.heldFrom (.leaving .reverse), notices)
  else (m.title, notices)

/-- A title becomes LEAVING by FADE and takes its first drop (05 R88). -/
def beginFade (t : Title) (notices : List Notice) : TitleWork :=
  fadeStep { t with phase := .showing (.leaving .fade) } notices

/-- A title becomes LEAVING by REVERSE (05 R88, R91). -/
def Title.reversing (t : Title) : Title :=
  { t with
    phase := .showing (.leaving .reverse)
    velocity := 0
    creepLeft := 0
    marks := { t.marks with decel := false } }

/-- A DWELL title begins to leave (05 R88). -/
def beginLeave (t : Title) : TitleWork :=
  match t.exit with
  | .cut => t.leaveEnds [.left]
  | .fade => beginFade t [.left]
  | .reverse => if t.motion.isNone then t.leaveEnds [.left] else reverseStep t.reversing [.left]

/-- A TURNING title at a field step (05 R91). -/
def turningStep (t : Title) (notices : List Notice) : TitleWork :=
  if t.turnPause = 0 then
    let m := motionStep t
    if m.complete || m.atStartRate then
      let t1 : Title := { m.title with turnPause := 2 }
      if t.haltPending then (t1.heldFrom .turning, notices) else (t1, notices)
    else (m.title, notices)
  else
    let t1 : Title := { t with turnPause := t.turnPause - 1 }
    if t1.turnPause = 0 then (t1.reversing, notices) else (t1, notices)

/-- An ENTERING title at a field step (05 R86). -/
def enteringStep (t : Title) (notices : List Notice) : TitleWork :=
  if t.marks.endMark then
    let t1 : Title :=
      { t with marks := { t.marks with endMark := false }, velocity := 0, byCommand := true }
    match t.exit with
    | .fade => beginFade t1 (notices ++ [.left])
    | .cut => t1.leaveEnds (notices ++ [.left])
    | .reverse => turningStep { t1 with phase := .showing .turning } (notices ++ [.left])
  else
    let m := motionStep t
    if m.complete then
      let t1 : Title :=
        { m.title with
          phase := .showing .dwell
          dwellLeft := t.dwell
          marks := { m.title.marks with decel := false } }
      (if t.haltPending then t1.heldFrom .dwell else t1, notices ++ [.entered])
    else if t.haltPending && m.atStartRate then (m.title.heldFrom .entering, notices)
    else (m.title, notices)

/-- The end conditions under which the dwell is counted (05 R87). -/
def EndCond.counts : EndCond → Bool
  | .dwell => true
  | .cue _ => true
  | .command => false

/-- A DWELL title at a field step (05 R87). The countdown runs while the record's dwell is not 0, and stands where
nothing of the dwell loaded on entry is left (log 11). -/
def dwellStep (t : Title) : TitleWork :=
  if t.marks.endMark then beginLeave { t with marks := { t.marks with endMark := false } }
  else if t.ending.counts && decide (0 < t.dwell) && decide (0 < t.dwellLeft) then
    let t1 : Title := { t with dwellLeft := t.dwellLeft - 1 }
    if t1.dwellLeft = 0 then beginLeave t1 else (t1, [])
  else (t, [])

/-- Whether an ARMED title starts: GO is set, or its start field is the field counter's value (05 R84). -/
def Title.starts (t : Title) (fieldCounter : BitVec 16) : Bool :=
  t.marks.go || t.start == .field fieldCounter.toNat

/-- An ARMED title at a field step (05 R84). -/
def startTest (fieldCounter : BitVec 16) (t : Title) : TitleWork :=
  if t.starts fieldCounter then
    match t.motion.ramp with
    | none =>
      (Title.redisplay
        { t with
          phase := .showing .dwell
          marks := { t.marks with go := false }
          dwellLeft := t.dwell },
       [.started, .entered])
    | some r =>
      enteringStep
        { t with
          phase := .showing .entering
          marks := { t.marks with go := false, decel := false }
          travel := 0
          velocity := 0
          creepLeft := r.creep }
        [.started]
  else (t, [])

/-- The work of a live title at a field step (05 R83). -/
def titleStep (fieldCounter : BitVec 16) (t : Title) : TitleWork :=
  match t.phase with
  | .dormant => (t, [])
  | .armed => startTest fieldCounter t
  | .showing .entering => enteringStep t []
  | .showing .dwell => dwellStep t
  | .showing .turning => turningStep t []
  | .showing (.leaving .fade) => fadeStep t []
  | .showing (.leaving .reverse) => reverseStep t []
  | .held _ => (t, [])
  | .done _ => (t, [])

/-- The field step over every live record (05 R83). The order of the records does not change the outcome. -/
def State.fieldStep (s : State) : State :=
  handles.foldl
    (fun s h =>
      match s.title h with
      | none => s
      | some t => s.settleTitle h (titleStep s.lle.fieldCounter t))
    s

/-! ### Commands to one title. `none`: the phase does not accept the command (05 R80). -/

/-- ARM (05 R81). -/
def armTitle (t : Title) : Option TitleWork :=
  match t.phase with
  | .dormant => some ({ t with phase := .armed }, [])
  | _ => none

/-- DISARM (05 R81). -/
def disarmTitle (t : Title) : Option TitleWork :=
  match t.phase with
  | .armed => some ({ t with phase := .dormant, marks := { t.marks with go := false } }, [])
  | _ => none

/-- START (05 R82). -/
def startTitle (t : Title) : Option TitleWork :=
  match t.phase with
  | .dormant => some ({ t with phase := .armed, marks := { t.marks with go := true } }, [])
  | .armed => some ({ t with marks := { t.marks with go := true } }, [])
  | _ => none

/-- The leave of an ENTERING title by the exit it holds (05 R93). DESIGN CHOICE (log 24): an END mark that an earlier LEAVE
has set stays where the exit is now REVERSE. -/
def leaveEntering (t : Title) : TitleWork :=
  match t.exit with
  | .cut => t.leaveEnds [.left]
  | .fade =>
    ({ t with marks := { t.marks with endMark := true, decel := false }, haltPending := false }, [])
  | .reverse => ({ t with phase := .showing .turning }, [.left])

/-- LEAVE (05 R93). -/
def leaveTitle (t : Title) : Option TitleWork :=
  match t.phase with
  | .dormant => some (t.ended .neverShown, [.done])
  | .armed => some (t.ended .neverShown, [.done])
  | .showing .dwell => some ({ t with marks := { t.marks with endMark := true }, byCommand := true }, [])
  | .showing .entering => some (leaveEntering { t with byCommand := true })
  | .held .dwell => some ({ t with leavePlanned := true, byCommand := true }, [])
  | .held .entering => some ({ t with leavePlanned := true, byCommand := true }, [])
  | _ => none

/-- The phases RETIRE TITLE GRACEFUL retires at once, as IMMEDIATE (04 R74). -/
def Phase.retiresAtOnce : Phase → Bool
  | .dormant => true
  | .armed => true
  | .done _ => true
  | .showing _ => false
  | .held _ => false

/-- RETIRE TITLE GRACEFUL in a showing phase (04 R74): auto-retire becomes YES, and the title is taken as LEAVE
takes it, or goes on leaving as it was where LEAVE would refuse it. -/
def gracefulTitle (t : Title) : TitleWork :=
  match leaveTitle { t with autoRetire := true } with
  | some r => r
  | none => ({ t with autoRetire := true }, [])

/-- HALT IMMEDIATE (05 R94): an END mark becomes a planned leave. -/
def haltTitle (t : Title) : Option TitleWork :=
  match t.phase with
  | .showing c =>
    some
      ({ t.heldFrom c with
         marks := { t.marks with endMark := false, decel := false }
         leavePlanned := t.leavePlanned || t.marks.endMark }, [])
  | _ => none

/-- Whether HALT DECELERATED slows the title before it holds it (05 R95). -/
def Title.slowsToHalt (t : Title) : Bool :=
  match t.phase with
  | .showing .entering => !t.marks.endMark
  | .showing (.leaving .reverse) => true
  | .showing .turning => decide (t.turnPause = 0)
  | _ => false

/-- HALT DECELERATED (05 R95). -/
def slowHaltTitle (t : Title) : Option TitleWork :=
  if t.slowsToHalt then
    some ({ t with marks := { t.marks with decel := true }, haltPending := true }, [])
  else haltTitle t

/-- A planned leave carried out at RESUME, by the LEAVE row of the phase the title has returned to (05 R96). Back in
TURNING or LEAVING, reached by log 24 alone, it has no effect. -/
def plannedLeave (t : Title) : TitleWork :=
  match t.phase with
  | .showing .dwell => ({ t with marks := { t.marks with endMark := true } }, [])
  | .showing .entering => leaveEntering t
  | _ => (t, [])

/-- RESUME (05 R96). -/
def resumeTitle (t : Title) : Option TitleWork :=
  match t.phase with
  | .held c =>
    let t1 : Title := { t with phase := .showing c, velocity := 0, creepLeft := 0, leavePlanned := false }
    some (if t.leavePlanned then plannedLeave t1 else (t1, []))
  | _ => none

/-- REARM (05 R97). -/
def rearmTitle (t : Title) : Option TitleWork :=
  match t.phase with
  | .done _ =>
    some
      (Title.redisplay
        { t with
          phase := .dormant
          marks := Marks.empty
          travel := 0
          velocity := 0
          creepLeft := 0
          turnPause := 0
          dwellLeft := 0
          leavePlanned := false
          haltPending := false
          byCommand := false }, [])
  | _ => none

/-- CUT ALL (05 R98): every showing title goes to DONE with outcome CUT. -/
def State.cutTitles (s : State) : State :=
  handles.foldl
    (fun s h =>
      match s.title h with
      | none => s
      | some t => if t.phase.isShowing then s.settleTitle h (t.ended .wasCut, [.done]) else s)
    s

/-- A cue edge on line `n` leaves its mark on one title (05 R99). -/
def Title.cueMarked (n : Fin 4) (t : Title) : Title :=
  match t.phase with
  | .armed => if t.start = .cue n then { t with marks := { t.marks with go := true } } else t
  | .showing .dwell => if t.ending = .cue n then { t with marks := { t.marks with endMark := true } } else t
  | _ => t

/-- A cue edge handed to the TS (05 R99). -/
def State.cueMark (s : State) (n : Fin 4) : State :=
  { s with titles := s.titles.map (Option.map (Title.cueMarked n)) }

end Sys2Proof.Machine
end

