-- ==== Sys2Proof/Machine/Cue.lean ====
section
/-! DEFINITION. The Cue Line Unit (09): sampling, debounce and cue edges. -/

namespace Sys2Proof.Machine

open Sys2Proof

def Level.asQualified : Level → QualifiedLevel
  | .low => .low
  | .high => .high

/-- One line reads a sample: two equal readings at line starts running qualify a level (09 R156). -/
def CueLine.sampled (l : CueLine) (sample : Level) : CueLine :=
  { l with
    previous := some sample
    qualified := if l.previous = some sample then Level.asQualified sample else l.qualified }

/-- A cue edge: a line in INPUT qualifies a change from HIGH to LOW (09 R156). -/
def CueLine.hasEdge (l : CueLine) (sample : Level) : Bool :=
  l.role == .input && l.qualified == .high && (l.sampled sample).qualified == .low

/-- One line at a line start. An edge raises its event, and outside STANDBY is handed to the TS (09 R156, R157). -/
def State.cueSample (s : State) (n : Fin 4) (sample : Level) : State :=
  let line := s.clu.get n
  let s1 : State := { s with clu := s.clu.put n (line.sampled sample) }
  if line.hasEdge sample then
    let s2 := s1.raise (.cue n)
    if s.lle.lock = .standby then s2 else s2.cueMark n
  else s1

/-- The cue work of a line start: every line is read as its pin stands, and then each line takes its sample. -/
def State.cueWork (s : State) : State :=
  ((((s.cueSample 0 (s.cuePin 0)).cueSample 1 (s.cuePin 1)).cueSample 2 (s.cuePin 2)).cueSample 3 (s.cuePin 3))

end Sys2Proof.Machine
end

