-- ==== Sys2Proof/Machine/Keying.lean ====
section
/-! DEFINITION. The Span Builder and Keyer (08): candidates, spans, the key rule, and HIT TEST's selection (04 R70),
which is the same. -/

namespace Sys2Proof.Machine

open Sys2Proof

/-- Whether a field mask admits a parity (08 R137). -/
def FieldMask.admits : FieldMask → Parity → Bool
  | .both, _ => true
  | .a, .a => true
  | .a, .b => false
  | .b, .a => false
  | .b, .b => true

/-- Whether a record is a candidate for line `y` of a parity (08 R137, 04 R70). -/
def Title.covers (t : Title) (p : Parity) (y : Nat) : Bool :=
  t.phase.isShowing && t.place.mask.admits p && decide (16 ≤ y) && decide (t.disp.top ≤ (y : Int))
    && decide ((y : Int) < t.disp.top + t.place.height) && decide (0 < t.disp.width)

/-- A candidate: its handle and its record. -/
abbrev Candidate := Nat × Title

/-- A candidate put after every candidate of its priority or a higher one (08 R138). -/
def placeCandidate (c : Candidate) : List Candidate → List Candidate
  | [] => [c]
  | d :: rest => if c.2.place.prio ≤ d.2.place.prio then d :: placeCandidate c rest else c :: d :: rest

/-- The candidates of a line by handle, lowest first (08 R137). -/
def State.candidates (s : State) (p : Parity) (y : Nat) : List Candidate :=
  handles.filterMap fun h =>
    match s.title h with
    | none => none
    | some t => if t.covers p y then some (h, t) else none

/-- The candidates by priority, highest first, and by handle, lowest first (08 R138, 04 R70). -/
def State.ordered (s : State) (p : Parity) (y : Nat) : List Candidate :=
  (s.candidates p y).foldl (fun cs c => placeCandidate c cs) []

/-- The span of a candidate, its range clipped to the line (08 R139). -/
def spanOf (linePixTotal : Nat) (c : Candidate) : Span where
  handle := c.1
  xl := max c.2.disp.left 0
  xr := min (c.2.disp.left + c.2.disp.width) linePixTotal
  colour := c.2.key.colour
  mask := c.2.key.mask
  sense := c.2.key.sense
  bank := c.2.key.bank
  level := c.2.disp.level

/-- The span list of a line: the first 8 candidates in order (08 R138). -/
def State.spans (s : State) (p : Parity) (y : Nat) : List Span :=
  ((s.ordered p y).take 8).map (spanOf s.stg.linePixTotal)

/-- Whether a span's range contains a pixel (08 R142). -/
def Span.contains (sp : Span) (x : Nat) : Bool :=
  decide (sp.xl ≤ (x : Int)) && decide ((x : Int) < sp.xr)

/-- The span that decides a pixel: the first whose range contains it (08 R142). -/
def deciding (spans : List Span) (x : Nat) : Option Span :=
  spans.find? fun sp => sp.contains x

/-- The handle HIT TEST answers: the title that would decide the pixel, or 0 (04 R70). -/
def State.hit (s : State) (p : Parity) (y x : Nat) : Nat :=
  match deciding (s.spans p y) x with
  | none => 0
  | some sp => sp.handle

/-- The span list for the beginning line is built and waits for its CHS, the master level taken with it, and SPAN
OVERFLOW is raised once a field (08 R136, R140). -/
def State.buildSpans (s : State) : State :=
  let s1 : State :=
    { s with sbk := { s.sbk with
        waiting := some (s.spans s.sq.parity s.lle.y)
        waitingMaster := s.settings.masterLevel } }
  if 8 < (s.ordered s.sq.parity s.lle.y).length ∧ s.sbk.overflowReported = false then
    ({ s1 with sbk := { s1.sbk with overflowReported := true } } : State).raise .spanOverflow
  else s1

/-- Index and key colour agree in every plane the mask selects (08 R143). -/
def Span.agrees (sp : Span) (index : BitVec 4) : Bool :=
  (index ^^^ sp.colour) &&& sp.mask == 0

/-- Whether the key rule keys the pixel opaque (08 R143). -/
def Span.keysOpaque (sp : Span) (index : BitVec 4) : Bool :=
  match sp.sense with
  | .normal => !sp.agrees index
  | .inverse => sp.agrees index

/-- A numbered pixel keyed by the keying list (08 R142 to R144). -/
def SpanKeyer.keyPixel (k : SpanKeyer) (x : Nat) (index : BitVec 4) : KeyedSample :=
  match deciding k.keying x with
  | none => .clear
  | some sp =>
    if sp.keysOpaque index then .overlaid (sp.bank * 16 + index.toNat) (sp.level * k.keyingMaster / 63)
    else .clear

/-- A palette entry (08 R149). -/
def Palette.entry (p : Palette) (n : Nat) : Colour :=
  p.entries.getD n Colour.black

/-- A keyed sample drives COL and MIX; in STANDBY every sample is palette entry 0 and MIX 0 (08 R144, R146). -/
def State.driveSample (s : State) : State :=
  match s.sbk.handed with
  | none => s
  | some k =>
    let out : Colour × Nat :=
      match k with
      | .clear => (s.op.entry 0, 0)
      | .overlaid e m => if s.lle.lock = .standby then (s.op.entry 0, 0) else (s.op.entry e, m)
    { s with sbk := { s.sbk with col := out.1, mix := out.2, handed := none } }

end Sys2Proof.Machine
end

