-- ==== Sys2Proof/Machine/Reply.lean ====
section
/-! DEFINITION. The answer of a performed command and what the CPR makes of it: the result list, the condition
record, the attention answer (11 R174 to R181). -/

namespace Sys2Proof.Machine

open Sys2Proof

/-- What the rule that owns a command answers: completion, key, code, handle and parameter byte for the condition
record, and the data bytes that follow the completion code (11 R175, R177). -/
structure Reply where
  completion : Completion
  key : ConditionKey
  code : Nat
  handle : Nat
  param : Nat
  data : List Byte
deriving DecidableEq, Repr

/-- GOOD, with a record of key NONE (11 R177). -/
def Reply.good (data : List Byte) : Reply where
  completion := .good
  key := .none
  code := 0
  handle := 0
  param := 0
  data := data

/-- ADJUSTED, naming the handle and the first clamped parameter byte. -/
def Reply.adjusted (handle param : Nat) (data : List Byte) : Reply where
  completion := .adjusted
  key := .adjusted
  code := 0
  handle := handle
  param := param
  data := data

/-- CHECK: the command is refused, and no data byte follows (11 R175). -/
def Reply.check (key : ConditionKey) (code handle param : Nat) : Reply where
  completion := .check
  key := key
  code := code
  handle := handle
  param := param
  data := []

/-- A choice out of its choices; the parameter byte is 0 where the owning rule names none (log 13). -/
def Reply.badChoice (param : Nat) : Reply :=
  Reply.check .illegalRequest codeBadChoice 0 param

def Reply.badItem (param : Nat) : Reply :=
  Reply.check .illegalRequest codeBadItem 0 param

/-- 04 R76: the condition record names the handle given. -/
def Reply.noSuchTitle (handle : Nat) : Reply :=
  Reply.check .illegalRequest codeNoSuchTitle handle 0

/-- 05 R80, 07 R124: the code byte carries the phase, and the record names the handle. -/
def Reply.wrongPhase (handle : Nat) (t : Title) : Reply :=
  Reply.check .wrongPhase t.phase.code handle 0

/-- What performing a command gives: the state its rule leaves, and its answer. -/
abbrev Performed := State × Reply

/-- A refused command changes nothing but its answer. -/
def State.refuse (s : State) (r : Reply) : Performed :=
  (s, r)

/-- The occupancy of the amendment queue (07 R121). -/
def State.occupancy (s : State) : Nat :=
  s.aq.entries.length

/-- The new condition record (11 R177). -/
def State.recordOf (s : State) (code : Byte) (r : Reply) (reasons : Attention) : Condition where
  completion := r.completion
  key := r.key
  code := r.code
  handle := r.handle
  param := r.param
  reasons := reasons
  lastCommand := code
  fieldCounter := s.lle.fieldCounter
  occupancy := s.occupancy

/-- The result list takes the completion code and, after GOOD or ADJUSTED, the data bytes (11 R175). -/
def State.placeResults (s : State) (r : Reply) : State :=
  { s with cpr := { s.cpr with results := r.completion.code :: r.data } }

/-- The end of a performed command: its results and its condition record, and report run NO (11 R175, R177, 02 R42). -/
def finish (code : Byte) (p : Performed) : State :=
  let s1 := p.1.placeResults p.2
  { s1 with
    cpr := { s1.cpr with condition := p.1.recordOf code p.2 Attention.empty }
    lle := { s1.lle with reportRun := false } }

/-- The attention answer: the command is not performed, the reasons go into the record and are cleared (11 R181). -/
def State.answerAttention (s : State) (code : Byte) : State :=
  let r : Reply :=
    { completion := .attention, key := .attention, code := 0, handle := 0, param := 0, data := [] }
  let s1 := s.placeResults r
  { s1 with cpr := { s1.cpr with
      condition := s.recordOf code r s.cpr.attention
      attention := Attention.empty } }

/-- A command other than REPORT CONDITION and REPORT LOCK performed: the attention answer comes first (11 R176). -/
def performWith (code : Byte) (body : State → Performed) (s : State) : State :=
  if s.cpr.attention.any then s.answerAttention code else finish code (body s)

/-- A command that names a live title (04 R76). -/
def State.onTitle (s : State) (h : Nat) (body : Title → Performed) : Performed :=
  match s.title h with
  | none => s.refuse (Reply.noSuchTitle h)
  | some t => body t

end Sys2Proof.Machine
end

