-- ==== Sys2Proof/Machine/Table.lean ====
section
/-! DEFINITION. The Title Table's commands (04): create, query, list, hit-test, retire, reset. -/

namespace Sys2Proof.Machine

open Sys2Proof

/-! ### Creation (04 R58 to R66) -/

/-- Steps 2 to 4 of the placement clamp, each dependent field against the one it depends on (04 R58). -/
def Placement.fit (pixTotal : Nat) (p : Placement) : Placement :=
  let left := min p.left (pixTotal - 1)
  { p with
    height := min p.height (313 - p.top)
    left := left
    width := min p.width (pixTotal - left) }

/-- Step 1 of the placement clamp, each field to its own range (04 R58). -/
def Placement.ranged (p : Placement) : Placement where
  prio := clamp 0 7 p.prio
  mask := p.mask
  top := clamp 16 312 p.top
  height := clamp 1 297 p.height
  left := clamp 0 1023 p.left
  width := clamp 1 1024 p.width

/-- The choice fields of a creation block that are present for its kind (04 R63): parameter byte and whether it is
within its choices, in item order. -/
def blockChoices (ps : List Byte) : List (Nat × Bool) :=
  [(2, (FieldMask.ofCode (byteAt ps 2)).isSome),
   (13, (KeySense.ofCode (byteAt ps 13)).isSome),
   (16, decide (byteAt ps 16 ≤ 4))]
  ++ (if byteAt ps 16 = 2 ∨ byteAt ps 16 = 3 then [(17, (SideApproach.ofCode (byteAt ps 17)).isSome)]
      else if byteAt ps 16 = 4 then [(17, (VertApproach.ofCode (byteAt ps 17)).isSome)]
      else [])
  ++ [(33, (StartCond.ofCode 0 (byteAt ps 33)).isSome),
      (38, (EndCond.ofCode (byteAt ps 38)).isSome),
      (39, (Exit.ofCode (byteAt ps 39)).isSome),
      (41, (flagOfCode (byteAt ps 41)).isSome)]

/-- The parameter byte of the first choice out of its choices (04 R63). -/
def firstBadChoice (ps : List Byte) : Option Nat :=
  ((blockChoices ps).find? fun c => !c.2).map Prod.fst

/-- The placement of a block, clamped (04 R58). -/
def blockPlacement (pixTotal : Nat) (ps : List Byte) : Placement :=
  Placement.fit pixTotal (Placement.ranged
    { prio := byteAt ps 1
      mask := (FieldMask.ofCode (byteAt ps 2)).getD .both
      top := wordAt ps 3
      height := wordAt ps 5
      left := wordAt ps 7
      width := wordAt ps 9 })

/-- The key part of a block, clamped (04 R60). -/
def blockKey (ps : List Byte) : KeyPart where
  colour := BitVec.ofNat 4 (min 15 (byteAt ps 11))
  mask := BitVec.ofNat 4 (min 15 (byteAt ps 12))
  sense := (KeySense.ofCode (byteAt ps 13)).getD .normal
  bank := min 3 (byteAt ps 14)
  level := min 63 (byteAt ps 15)

/-- Items 14 to 20 of a block, clamped (04 R61). -/
def blockRamp (ps : List Byte) : Ramp where
  course := wordAt ps 18
  startRate := clamp 1 4095 (wordAt ps 20)
  runRate := clamp 1 4095 (wordAt ps 22)
  accel := clamp 1 4095 (wordAt ps 24)
  decel := clamp 1 4095 (wordAt ps 26)
  rampDown := wordAt ps 28
  creep := byteAt ps 30

/-- The motion part of a block: only what is present for its kind (04 R61). -/
def blockMotion (ps : List Byte) : Motion :=
  let side := (SideApproach.ofCode (byteAt ps 17)).getD .fromLeft
  let vert := (VertApproach.ofCode (byteAt ps 17)).getD .fromBelow
  let reach := min 1023 (wordAt ps 31)
  match byteAt ps 16 with
  | 1 => .fade (blockRamp ps)
  | 2 => .wipe side (blockRamp ps)
  | 3 => .slide side (blockRamp ps) reach
  | 4 => .rise vert (blockRamp ps) reach
  | _ => .none

/-- The record a creation block fills, before its displayed geometry (04 R66, 05 R79). -/
def blockTitle (pixTotal : Nat) (ps : List Byte) : Title where
  phase := .dormant
  marks := Marks.empty
  place := blockPlacement pixTotal ps
  key := blockKey ps
  motion := blockMotion ps
  start := (StartCond.ofCode (wordAt ps 34) (byteAt ps 33)).getD .command
  dwell := wordAt ps 36
  ending := (EndCond.ofCode (byteAt ps 38)).getD .dwell
  exit := (Exit.ofCode (byteAt ps 39)).getD .cut
  exitStep := clamp 1 63 (byteAt ps 40)
  autoRetire := (flagOfCode (byteAt ps 41)).getD false
  travel := 0
  velocity := 0
  creepLeft := 0
  turnPause := 0
  dwellLeft := 0
  leavePlanned := false
  haltPending := false
  byCommand := false
  disp := { top := 0, left := 0, width := 0, level := 0 }

/-- The numeric fields of a block that a clamp may change, in item order: the parameter byte that begins each, the
value given and the value stored (04 R65). -/
def blockClamps (pixTotal : Nat) (ps : List Byte) : List (Nat × Nat × Nat) :=
  let p := blockPlacement pixTotal ps
  let r := blockRamp ps
  [(1, byteAt ps 1, p.prio), (3, wordAt ps 3, p.top), (5, wordAt ps 5, p.height),
   (7, wordAt ps 7, p.left), (9, wordAt ps 9, p.width),
   (11, byteAt ps 11, min 15 (byteAt ps 11)), (12, byteAt ps 12, min 15 (byteAt ps 12)),
   (14, byteAt ps 14, min 3 (byteAt ps 14)), (15, byteAt ps 15, min 63 (byteAt ps 15))]
  ++ (if byteAt ps 16 = 0 then []
      else [(20, wordAt ps 20, r.startRate), (22, wordAt ps 22, r.runRate), (24, wordAt ps 24, r.accel),
            (26, wordAt ps 26, r.decel)])
  ++ (if byteAt ps 16 = 3 ∨ byteAt ps 16 = 4 then [(31, wordAt ps 31, min 1023 (wordAt ps 31))] else [])
  ++ [(40, byteAt ps 40, clamp 1 63 (byteAt ps 40))]

/-- The parameter byte that begins the first clamped field (04 R65). -/
def firstClamped (pixTotal : Nat) (ps : List Byte) : Option Nat :=
  ((blockClamps pixTotal ps).find? fun c => c.2.1 != c.2.2).map Prod.fst

/-- CREATE TITLE (04 R63, R65, R66). -/
def doCreateTitle (ps : List Byte) (s : State) : Performed :=
  match firstBadChoice ps with
  | some k => s.refuse (Reply.badChoice k)
  | none =>
    match s.lowestFree with
    | none => s.refuse (Reply.check .resource codeTableFull 0 0)
    | some h =>
      let t := (blockTitle s.settings.pixTotal ps).redisplay
      let s1 := (s.setTitle h (some t)).clearNotices h
      match firstClamped s.settings.pixTotal ps with
      | none => (s1, Reply.good [byteOf h])
      | some k => (s1, Reply.adjusted h k [byteOf h])

/-! ### QUERY TITLE (04 R67; 11, "QUERY TITLE result") -/

def rampBytes (r : Ramp) : List Byte :=
  wordBytes r.course ++ wordBytes r.startRate ++ wordBytes r.runRate ++ wordBytes r.accel
    ++ wordBytes r.decel ++ wordBytes r.rampDown ++ [byteOf r.creep]

/-- Items 13 to 21, every byte of an absent field 0. -/
def motionBytes (m : Motion) : List Byte :=
  let approach := byteOf ((m.approachCode).getD 0)
  match m with
  | .none => List.replicate 16 0
  | .fade r => approach :: (rampBytes r ++ wordBytes 0)
  | .wipe _ r => approach :: (rampBytes r ++ wordBytes 0)
  | .slide _ r reach => approach :: (rampBytes r ++ wordBytes reach)
  | .rise _ r reach => approach :: (rampBytes r ++ wordBytes reach)

def startFieldOf : StartCond → Nat
  | .field n => n
  | .command => 0
  | .cue _ => 0

/-- The 41 bytes of the creation block as the record stands (11, "Creation block"). -/
def blockBytes (t : Title) : List Byte :=
  [byteOf t.place.prio, byteOf t.place.mask.code] ++ wordBytes t.place.top ++ wordBytes t.place.height
    ++ wordBytes t.place.left ++ wordBytes t.place.width
    ++ [byteOf t.key.colour.toNat, byteOf t.key.mask.toNat, byteOf t.key.sense.code, byteOf t.key.bank,
        byteOf t.key.level, byteOf t.motion.kindCode]
    ++ motionBytes t.motion
    ++ [byteOf t.start.code] ++ wordBytes (startFieldOf t.start) ++ wordBytes t.dwell
    ++ [byteOf t.ending.code, byteOf t.exit.code, byteOf t.exitStep, byteOf (boolCode t.autoRetire)]

/-- Held-from as a phase code; FFH when absent. -/
def heldFromByte : Phase → Byte
  | .held c => byteOf c.phaseCode
  | .dormant => 0xFF
  | .armed => 0xFF
  | .showing _ => 0xFF
  | .done _ => 0xFF

/-- The outcome; FFH when absent. -/
def outcomeByte : Phase → Byte
  | .done o => byteOf o.code
  | .dormant => 0xFF
  | .armed => 0xFF
  | .showing _ => 0xFF
  | .held _ => 0xFF

def mannerOfCourse : Course → Option Manner
  | .leaving m => some m
  | .entering => none
  | .dwell => none
  | .turning => none

/-- The leaving manner, present while LEAVING or HELD from LEAVING (04, Runtime). -/
def Phase.manner : Phase → Option Manner
  | .showing c => mannerOfCourse c
  | .held c => mannerOfCourse c
  | .dormant => none
  | .armed => none
  | .done _ => none

def mannerByte (p : Phase) : Byte :=
  match p.manner with
  | none => 0xFF
  | some m => byteOf m.code

/-- Bytes 2 to 66 of the QUERY TITLE result. -/
def queryBytes (t : Title) (n : NoticeSet) : List Byte :=
  [byteOf t.phase.code, heldFromByte t.phase, outcomeByte t.phase, byteOf n.code, byteOf t.marks.code]
    ++ blockBytes t
    ++ wordBytes t.travel ++ wordBytes t.velocity ++ [byteOf t.creepLeft, byteOf t.turnPause]
    ++ wordBytes t.dwellLeft
    ++ [mannerByte t.phase, byteOf (boolCode t.leavePlanned), byteOf (boolCode t.haltPending),
        byteOf (boolCode t.byCommand)]
    ++ signedWordBytes t.disp.top ++ signedWordBytes t.disp.left ++ wordBytes t.disp.width
    ++ [byteOf t.disp.level]

/-- QUERY TITLE (04 R67). -/
def doQueryTitle (ps : List Byte) (s : State) : Performed :=
  s.onTitle (byteAt ps 1) fun t => (s, Reply.good (queryBytes t (s.noticeSet (byteAt ps 1))))

/-- The handles of the records whose phase is in the set, ascending (04 R68). -/
def State.listed (s : State) (set : Nat) : List Nat :=
  handles.filter fun h => set.testBit (phaseCodeOf (s.title h))

/-- LIST TITLES (04 R68). -/
def doListTitles (ps : List Byte) (s : State) : Performed :=
  if 512 ≤ wordAt ps 1 then s.refuse (Reply.badChoice 0)
  else
    (s, Reply.good (byteOf (s.listed (wordAt ps 1)).length :: (s.listed (wordAt ps 1)).map byteOf))

/-- HIT TEST (04 R69, R70). -/
def doHitTest (ps : List Byte) (s : State) : Performed :=
  match Parity.ofCode (byteAt ps 1) with
  | none => s.refuse (Reply.badChoice 0)
  | some p => (s, Reply.good [byteOf (s.hit p (wordAt ps 2) (wordAt ps 4))])

/-! ### Retiring (04 R71 to R75) -/

/-- RETIRE TITLE with mode IMMEDIATE (04 R73). -/
def State.retireNow (s : State) (h : Nat) : Performed :=
  s.onTitle h fun _ => (s.freeAndForget h, Reply.good [])

/-- RETIRE TITLE with mode GRACEFUL (04 R74). -/
def State.retireGracefully (s : State) (h : Nat) : Performed :=
  s.onTitle h fun t =>
    if t.phase.retiresAtOnce then (s.freeAndForget h, Reply.good [])
    else (s.settleTitle h (gracefulTitle t), Reply.good [])

/-- RETIRE TITLE: the mode is examined before the handle (04 R73, R76). -/
def doRetireTitle (ps : List Byte) (s : State) : Performed :=
  match byteAt ps 2 with
  | 0 => s.retireNow (byteAt ps 1)
  | 1 => s.retireGracefully (byteAt ps 1)
  | _ => s.refuse (Reply.badChoice 0)

/-- A TALLY line returns to INPUT (04 R75, 09 R160). -/
def CueLine.resetTally (l : CueLine) : CueLine :=
  match l.role with
  | .input => l
  | .tally _ => CueLine.retaken .input

/-- RESET TITLES (04 R75). -/
def doResetTitles (s : State) : Performed :=
  (({ s with
      titles := s.titles.map fun _ => none
      aq := { s.aq with entries := [], held := false }
      clu := s.clu.map CueLine.resetTally } : State).clearAllNotices, Reply.good [])

end Sys2Proof.Machine
end

