-- ==== Sys2Proof/Machine/Queue.lean ====
section
/-! DEFINITION. The Amendment Queue (07): staging, the commit, holding, looking in and discarding. -/

namespace Sys2Proof.Machine

open Sys2Proof

/-! ### Staging (07 R122 to R126) -/

/-- Whether an item's value is one of its choice codes; a numeric item has no choices to be out of (07 R122). -/
def choiceOk (item value : Nat) : Bool :=
  match item with
  | 2 => (FieldMask.ofCode value).isSome
  | 9 => (KeySense.ofCode value).isSome
  | 12 => decide (value ≤ 4)
  | 13 => decide (value ≤ 3)
  | 22 => (StartCond.ofCode 0 value).isSome
  | 25 => (EndCond.ofCode value).isSome
  | 26 => (Exit.ofCode value).isSome
  | 28 => (flagOfCode value).isSome
  | _ => true

/-- A value clamped to the range of its item at staging (07 R123). -/
def clampItem (pixTotal item value : Nat) : Nat :=
  match item with
  | 1 => clamp 0 7 value
  | 3 => clamp 16 312 value
  | 4 => clamp 1 297 value
  | 5 => clamp 0 (pixTotal - 1) value
  | 6 => clamp 1 pixTotal value
  | 7 => clamp 0 15 value
  | 8 => clamp 0 15 value
  | 10 => clamp 0 3 value
  | 11 => clamp 0 63 value
  | 15 => clamp 1 4095 value
  | 16 => clamp 1 4095 value
  | 17 => clamp 1 4095 value
  | 18 => clamp 1 4095 value
  | 20 => clamp 0 255 value
  | 21 => clamp 0 1023 value
  | 27 => clamp 1 63 value
  | _ => value

/-- The highest value of a device item (07, the device items). -/
def deviceTop (item : Nat) : Nat :=
  if item = 2 then 31 else 255

/-- Whether the queue holds an entry of this handle and item (07 R126). -/
def AmendmentQueue.holds (q : AmendmentQueue) (handle item : Nat) : Bool :=
  q.entries.any fun e => e.handle == handle && e.item == item

/-- The entry's value replaced in place (07 R126). -/
def replaceEntry (n : Entry) (e : Entry) : Entry :=
  if e.handle = n.handle ∧ e.item = n.item then n else e

/-- An entry enters the queue: in place of one of the same handle and item, or as the newest while there is room;
`none` where the queue is full (07 R126). -/
def AmendmentQueue.stage (q : AmendmentQueue) (n : Entry) : Option AmendmentQueue :=
  if q.holds n.handle n.item then some { q with entries := q.entries.map (replaceEntry n) }
  else if q.entries.length < 32 then some { q with entries := q.entries ++ [n] }
  else none

/-- A checked amendment staged, its completion by whether the value was clamped (07 R122, R125, R126). -/
def State.stageEntry (s : State) (given : Nat) (e : Entry) (param : Nat) : Performed :=
  match s.aq.stage e with
  | none => s.refuse (Reply.check .resource codeQueueFull e.handle 0)
  | some q =>
    ({ s with aq := q },
     if e.value = given then Reply.good [] else Reply.adjusted e.handle param [])

/-- The phases in which the start condition and the start field may be amended (07 R124, R128). -/
def Phase.beforeStart : Phase → Bool
  | .dormant => true
  | .armed => true
  | .showing _ => false
  | .held _ => false
  | .done _ => false

/-- AMEND TITLE (07 R122 to R124). -/
def doAmendTitle (ps : List Byte) (s : State) : Performed :=
  let h := byteAt ps 1
  let item := byteAt ps 2
  let value := wordAt ps 3
  if choiceOk item value = false then s.refuse (Reply.badChoice 3)
  else
    s.onTitle h fun t =>
      if item < 1 ∨ 28 < item then s.refuse (Reply.badItem 2)
      else if (item = 22 ∨ item = 23) ∧ t.phase.beforeStart = false then s.refuse (Reply.wrongPhase h t)
      else s.stageEntry value { handle := h, item := item, value := clampItem s.settings.pixTotal item value } 3

/-- SET TIMING (07 R125). -/
def doSetTiming (ps : List Byte) (s : State) : Performed :=
  let item := byteAt ps 1
  let value := wordAt ps 2
  if item < 1 ∨ 3 < item then s.refuse (Reply.badItem 1)
  else s.stageEntry value { handle := 0, item := item, value := clamp 0 (deviceTop item) value } 2

/-! ### The commit (07 R127 to R130) -/

/-- A device item written to the STG (07 R125, 03 R52). -/
def SlaveTiming.writeDevice (g : SlaveTiming) (item value : Nat) : SlaveTiming :=
  match item with
  | 1 => { g with hdelay := value }
  | 2 => { g with vdelay := value }
  | 3 => { g with hphase := value }
  | _ => g

/-- Whether a title's phase admits a new kind or approach (07 R128, 06 R119). -/
def Phase.admitsKind : Phase → Bool
  | .dormant => true
  | .armed => true
  | .showing .dwell => true
  | .showing .entering => false
  | .showing .turning => false
  | .showing (.leaving _) => false
  | .held _ => false
  | .done _ => true

/-- The approach of a motion part set from its code, where it is a choice of the kind the record holds (07 R128). -/
def Motion.setApproach (m : Motion) (code : Nat) : Option Motion :=
  match m with
  | .none => Option.none
  | .fade _ => Option.none
  | .wipe _ r => (SideApproach.ofCode code).map fun a => .wipe a r
  | .slide _ r reach => (SideApproach.ofCode code).map fun a => .slide a r reach
  | .rise _ r reach => (VertApproach.ofCode code).map fun a => .rise a r reach

/-- Whether the record has a reach (04 R61). -/
def Motion.hasReach : Motion → Bool
  | .none => false
  | .fade _ => false
  | .wipe _ _ => false
  | .slide _ _ _ => true
  | .rise _ _ _ => true

def StartCond.isField : StartCond → Bool
  | .field _ => true
  | .command => false
  | .cue _ => false

/-- Whether an entry's item is permitted at the commit, against the record as it then stands (07 R128). -/
def Title.permits (t : Title) (item value : Nat) : Bool :=
  match item with
  | 12 => t.phase.admitsKind
  | 13 => t.phase.admitsKind && (t.motion.setApproach value).isSome
  | 14 => !t.motion.isNone
  | 15 => !t.motion.isNone
  | 16 => !t.motion.isNone
  | 17 => !t.motion.isNone
  | 18 => !t.motion.isNone
  | 19 => !t.motion.isNone
  | 20 => !t.motion.isNone
  | 21 => t.motion.hasReach
  | 22 => t.phase.beforeStart
  | 23 => t.phase.beforeStart && t.start.isField
  | _ => true

/-- The ramp a motion kind begins with when the kind was NONE (04 R64). -/
def Ramp.fresh : Ramp where
  course := 0
  startRate := 1
  runRate := 1
  accel := 1
  decel := 1
  rampDown := 0
  creep := 0

/-- The ramp a record has, or a fresh one (04 R64). -/
def Motion.rampOrFresh (m : Motion) : Ramp :=
  (m.ramp).getD Ramp.fresh

/-- The side approach a record has, or FROM-LEFT (04 R64). -/
def Motion.sideOr : Motion → SideApproach
  | .wipe a _ => a
  | .slide a _ _ => a
  | .none => .fromLeft
  | .fade _ => .fromLeft
  | .rise _ _ _ => .fromLeft

/-- The vertical approach a record has, or FROM-BELOW (04 R64). -/
def Motion.vertOr : Motion → VertApproach
  | .rise a _ _ => a
  | .none => .fromBelow
  | .fade _ => .fromBelow
  | .wipe _ _ => .fromBelow
  | .slide _ _ _ => .fromBelow

/-- The reach a record has, or 0 (04 R64). -/
def Motion.reachOr : Motion → Nat
  | .slide _ _ n => n
  | .rise _ _ n => n
  | .none => 0
  | .fade _ => 0
  | .wipe _ _ => 0

/-- The motion part after a write of the kind (04 R64). -/
def Motion.setKind (m : Motion) (code : Nat) : Motion :=
  match code with
  | 0 => .none
  | 1 => .fade m.rampOrFresh
  | 2 => .wipe m.sideOr m.rampOrFresh
  | 3 => .slide m.sideOr m.rampOrFresh m.reachOr
  | 4 => .rise m.vertOr m.rampOrFresh m.reachOr
  | _ => m

/-- A write of the kind; kind NONE makes T, v and creep left 0 (04 R64). -/
def Title.writeKind (t : Title) (code : Nat) : Title :=
  let m := t.motion.setKind code
  if m.isNone then { t with motion := m, travel := 0, velocity := 0, creepLeft := 0 }
  else { t with motion := m }

/-- A change of one item of the ramp. -/
def Title.editRamp (t : Title) (f : Ramp → Ramp) : Title :=
  match t.motion.ramp with
  | none => t
  | some r => { t with motion := t.motion.withRamp (f r) }

/-- T after a commit of the course (06 R118). -/
def travelAfterCourse (p : Phase) (travel course : Nat) : Nat :=
  match p with
  | .dormant => 0
  | .armed => 0
  | .showing .dwell => course
  | .held .dwell => course
  | .showing .entering => min travel course
  | .showing .turning => min travel course
  | .showing (.leaving _) => min travel course
  | .held .entering => min travel course
  | .held .turning => min travel course
  | .held (.leaving _) => min travel course
  | .done _ => min travel course

/-- A write of the course D, and T with it (06 R118). -/
def Title.writeCourse (t : Title) (value : Nat) : Title :=
  { t.editRamp (fun r => { r with course := value }) with
    travel := travelAfterCourse t.phase t.travel value }

/-- A write of a placement field; the dependent steps of the placement clamp follow a write of top, height, left or
width (04 R59). -/
def Title.writePlace (t : Title) (pixTotal item value : Nat) : Title :=
  let p := t.place
  match item with
  | 1 => { t with place := { p with prio := value } }
  | 2 => { t with place := { p with mask := (FieldMask.ofCode value).getD p.mask } }
  | 3 => { t with place := Placement.fit pixTotal { p with top := value } }
  | 4 => { t with place := Placement.fit pixTotal { p with height := value } }
  | 5 => { t with place := Placement.fit pixTotal { p with left := value } }
  | 6 => { t with place := Placement.fit pixTotal { p with width := value } }
  | _ => t

/-- A write of a key item (07 R129). -/
def Title.writeKey (t : Title) (item value : Nat) : Title :=
  let k := t.key
  match item with
  | 7 => { t with key := { k with colour := BitVec.ofNat 4 value } }
  | 8 => { t with key := { k with mask := BitVec.ofNat 4 value } }
  | 9 => { t with key := { k with sense := (KeySense.ofCode value).getD k.sense } }
  | 10 => { t with key := { k with bank := value } }
  | 11 => { t with key := { k with level := value } }
  | _ => t

/-- A write of a motion item (04 R64, 06 R117 to R119). -/
def Title.writeMotion (t : Title) (item value : Nat) : Title :=
  match item with
  | 12 => t.writeKind value
  | 13 => { t with motion := (t.motion.setApproach value).getD t.motion }
  | 14 => t.writeCourse value
  | 15 => t.editRamp fun r => { r with startRate := value }
  | 16 => t.editRamp fun r => { r with runRate := value }
  | 17 => t.editRamp fun r => { r with accel := value }
  | 18 => t.editRamp fun r => { r with decel := value }
  | 19 => t.editRamp fun r => { r with rampDown := value }
  | 20 => t.editRamp fun r => { r with creep := value }
  | 21 =>
    match t.motion with
    | .slide a r _ => { t with motion := .slide a r value }
    | .rise a r _ => { t with motion := .rise a r value }
    | .none => t
    | .fade _ => t
    | .wipe _ _ => t
  | _ => t

/-- A start condition written: a start field already present is kept by FIELD, and is 0 when it becomes present
(04 R64). -/
def StartCond.rewritten (c : StartCond) (code : Nat) : StartCond :=
  match c with
  | .field n => (StartCond.ofCode n code).getD c
  | .command => (StartCond.ofCode 0 code).getD c
  | .cue _ => (StartCond.ofCode 0 code).getD c

/-- A write of a timeline item (07 R129). -/
def Title.writeTimeline (t : Title) (item value : Nat) : Title :=
  match item with
  | 22 => { t with start := t.start.rewritten value }
  | 23 => { t with start := .field value }
  | 24 => { t with dwell := value }
  | 25 => { t with ending := (EndCond.ofCode value).getD t.ending }
  | 26 => { t with exit := (Exit.ofCode value).getD t.exit }
  | 27 => { t with exitStep := value }
  | 28 => { t with autoRetire := (flagOfCode value).getD t.autoRetire }
  | _ => t

/-- A permitted entry stored in its part of the record, which follows the write (07 R129, 04 R64). -/
def Title.store (t : Title) (pixTotal item value : Nat) : Title :=
  if item ≤ 6 then t.writePlace pixTotal item value
  else if item ≤ 11 then t.writeKey item value
  else if item ≤ 21 then t.writeMotion item value
  else t.writeTimeline item value

/-- A permitted entry written: stored, and the displayed geometry computed again after it, whichever item it is (04 R64).
DEDUCED (log 15): 06 R111 and 07 R129 name that for the placement, key, level and motion parts alone. -/
def Title.write (t : Title) (pixTotal item value : Nat) : Title :=
  (t.store pixTotal item value).redisplay

/-- One entry applied; the flag says whether an entry of this commit was written (07 R128, R130). -/
def applyEntry (acc : State × Bool) (e : Entry) : State × Bool :=
  if e.handle = 0 then
    ({ acc.1 with stg := acc.1.stg.writeDevice e.item e.value }, true)
  else
    match acc.1.title e.handle with
    | none => acc
    | some t =>
      if t.permits e.item e.value then
        (acc.1.setTitle e.handle (some (t.write acc.1.settings.pixTotal e.item e.value)), true)
      else (acc.1.notify e.handle .dropped, acc.2)

/-- The commit of a field start event: held NO and the queue not empty (07 R127, R130). -/
def State.commit (s : State) : State :=
  if s.aq.held ∨ s.aq.entries = [] then s
  else
    let r := s.aq.entries.foldl applyEntry (s, false)
    let s1 : State := { r.1 with aq := { r.1.aq with entries := [] } }
    if r.2 then s1.raise .queueDrained else s1

/-! ### Holding, looking in, discarding (07 R131 to R133) -/

/-- HOLD AMENDMENTS and APPLY AMENDMENTS (07 R131). -/
def State.setHeld (s : State) (held : Bool) : Performed :=
  ({ s with aq := { s.aq with held := held } }, Reply.good [])

def entryBytes (e : Entry) : List Byte :=
  byteOf e.handle :: byteOf e.item :: wordBytes e.value

/-- QUERY PENDING (07 R132). -/
def doQueryPending (s : State) : Performed :=
  (s, Reply.good (byteOf s.occupancy :: byteOf (boolCode s.aq.held) :: s.aq.entries.flatMap entryBytes))

/-- Whether DISCARD PENDING under a handle removes an entry (07 R133). -/
def discards (handle : Nat) (e : Entry) : Bool :=
  handle == 255 || e.handle == handle

/-- DISCARD PENDING (07 R133). -/
def doDiscardPending (ps : List Byte) (s : State) : Performed :=
  let h := byteAt ps 1
  if 25 ≤ h ∧ h ≤ 254 then s.refuse (Reply.check .illegalRequest codeNoSuchTitle 0 0)
  else
    let kept := s.aq.entries.filter fun e => !discards h e
    ({ s with aq := { s.aq with entries := kept } }, Reply.good [byteOf (s.occupancy - kept.length)])

end Sys2Proof.Machine
end

