-- ==== Sys2Proof/Machine/Lock.lean ====
section
/-! DEFINITION. The Line Lock Engine's line timing (02 R20 to R33): the gate, the loop, quality, flywheel,
holdover, acquisition, and the standby transitions. -/

namespace Sys2Proof.Machine

open Sys2Proof

/-- P stays in 393216-655359 (02 R20, R23). -/
def clampPeriod (p : Int) : Nat :=
  (max 393216 (min 655359 p)).toNat

/-- The reading of a line's start: the whole part of L + 65536 (02 R20). -/
def lineStartReading (l : FineTime) : Timestamp :=
  wholePart (l + 65536)

/-- A count that saturates at a maximum (02 R42). -/
def saturate (top n : Nat) : Nat :=
  min top n

/-! ### When the LLE's events are due -/

/-- The first reading the gate admits: E/256 − G rounded up (02 R22). -/
def State.gateOpensAt (s : State) : Timestamp :=
  BitVec.ofNat 24 ((s.lle.edge.toNat + 255) / 256) - BitVec.ofNat 24 s.settings.gate

/-- GATE_OPEN is due: a gated state, the gate SHUT, the first admitted reading reached (02 R22). -/
def State.gateOpenDue (s : State) : Bool :=
  !s.pins.resetLow && s.lle.lock.gated && !s.lle.gateOpen && reached s.now s.gateOpensAt

/-- The G of the gate in progress: an open gate keeps the G it opened with (02 R22, R33). -/
def State.gateWidth (s : State) : Nat :=
  match s.lle.gateEdge with
  | some g => g.halfWidth
  | none => s.settings.gate

/-- The decision expiry: the whole part of E/256 plus G + F + 1 cc (02 R22). -/
def State.gateDecidesAt (s : State) : Timestamp :=
  wholePart s.lle.edge + BitVec.ofNat 24 (s.gateWidth + s.settings.filter + 1)

/-- GATE_DECISION_EXPIRY is due: the gate still OPEN at its decision expiry (02 R22). -/
def State.gateDecisionDue (s : State) : Bool :=
  !s.pins.resetLow && s.lle.lock.gated && s.lle.gateOpen && reached s.now s.gateDecidesAt

/-- FREE_LINE_DECISION is due: FREE-RUN or STANDBY, the whole part of E/256 reached (02 R24). -/
def State.freeLineDue (s : State) : Bool :=
  !s.pins.resetLow && !s.lle.lock.gated && reached s.now (wholePart s.lle.edge)

/-- LINE_START is due: the counter has reached the scheduled line start (02 R20, R21). -/
def State.lineStartDue (s : State) : Bool :=
  match s.lle.scheduled with
  | none => false
  | some t => !s.pins.resetLow && reached s.now t

/-! ### A line without an edge -/

/-- A line without an accepted edge: L = E, its start is scheduled, E advances by P (02 R24). -/
def LineLock.decideWithoutEdge (l : LineLock) : LineLock :=
  { l with
    scheduled := some (lineStartReading l.edge)
    edge := l.edge + BitVec.ofNat 32 l.period }

/-- A missing line: the gate shuts and the line is timed as 02 R24 gives. -/
def LineLock.missed (l : LineLock) : LineLock :=
  { l.decideWithoutEdge with gateOpen := false }

/-- The loss of lock at a missing line: FREE-RUN, the counts 0, P kept, the search begun afresh (02 R27, R30). -/
def LineLock.lost (l : LineLock) : LineLock :=
  { l with lock := .freeRun, missCount := 0, holdCount := 0, goodCount := 0, edgeSet := [] }

/-- The flywheel lines statistic counts a missing line (02 R26, R42). -/
def LineLock.countFlywheel (l : LineLock) : LineLock :=
  { l with flywheelLines := saturate 65535 (l.flywheelLines + 1) }

/-- A missing line in each lock state (02 R26, R27, R30). -/
def State.missingLine (s : State) : State :=
  let l := s.lle.missed
  match l.lock with
  | .acquiring => ({ s with lle := l.lost } : State).raise .lockLost
  | .locked => { s with lle := { l.countFlywheel with lock := .flywheel, holdCount := 1 } }
  | .flywheel =>
    if l.holdCount < s.settings.holdLimit then
      { s with lle := { l.countFlywheel with holdCount := l.holdCount + 1 } }
    else ({ s with lle := l.countFlywheel.lost } : State).raise .lockLost
  | .freeRun => { s with lle := l }
  | .standby => { s with lle := l }

/-! ### An accepted edge -/

/-- The loop update for phase error `e` with its two shifts (02 R23). Each quotient is rounded toward minus
infinity. -/
def LineLock.loopUpdate (l : LineLock) (e : Int) (phaseShift freqShift : Nat) : LineLock :=
  let corrected : FineTime := l.edge + BitVec.ofInt 32 (e / (2 : Int) ^ phaseShift)
  let period := clampPeriod (l.period + e / (2 : Int) ^ freqShift)
  { l with
    scheduled := some (lineStartReading corrected)
    period := period
    edge := corrected + BitVec.ofNat 32 period
    lastError := some e }

/-- The frequency shift of ACQUIRING (02 R23). -/
def acquiringShift (kf : Nat) : Nat :=
  max 4 (kf - 2)

/-- A slip: the part is re-timed from the edge at `t`, P is kept, and acquisition goes on from it (02 R25). -/
def LineLock.slipped (l : LineLock) (t : Timestamp) (e : Int) : LineLock :=
  { l with
    scheduled := some (lineStartReading (fine t))
    edge := fine t + BitVec.ofNat 32 l.period
    lastError := some e
    lock := .acquiring
    missCount := 0
    goodCount := 0
    slips := saturate 255 (l.slips + 1) }

/-- An accepted edge taken as LOCKED takes it (02 R25). -/
def State.trackedEdge (s : State) (t : Timestamp) (e : Int) : State :=
  let l := s.lle
  if e.natAbs ≤ 256 * s.settings.window then
    { s with lle := { l.loopUpdate e s.settings.kp s.settings.kf with missCount := l.missCount - 1 } }
  else if l.missCount + 1 < s.settings.slipLimit then
    { s with lle := { l.loopUpdate e s.settings.kp s.settings.kf with missCount := l.missCount + 1 } }
  else ({ s with lle := l.slipped t e } : State).raise .slip

/-- An accepted edge in ACQUIRING (02 R30). -/
def State.acquiringEdge (s : State) (e : Int) : State :=
  let l := s.lle.loopUpdate e 1 (acquiringShift s.settings.kf)
  if e.natAbs ≤ 256 * s.settings.window then
    if l.goodCount + 1 < 16 then { s with lle := { l with goodCount := l.goodCount + 1 } }
    else
      ({ s with lle := { l with lock := .locked, missCount := 0, goodCount := 0 } } : State).raise
        .lockGained
  else { s with lle := { l with goodCount := 0 } }

/-- The edge at `t` accepted for the line: the gate shuts and the loop runs at once (02 R22 to R26, R30). -/
def State.acceptEdge (s : State) (t : Timestamp) : State :=
  let e := signedGap (fine t) s.lle.edge
  let s1 : State := { s with lle := { s.lle with gateOpen := false } }
  match s.lle.lock with
  | .acquiring => s1.acquiringEdge e
  | .locked => s1.trackedEdge t e
  | .flywheel => ({ s1 with lle := { s1.lle with lock := .locked, holdCount := 0 } } : State).trackedEdge t e
  | .freeRun => s
  | .standby => s

/-- Whether a gate of half-width `g` around `edge` admits a timestamp, ends included (02 R22, 01 R5). -/
def admits (edge : FineTime) (g : Nat) (t : Timestamp) : Bool :=
  decide ((signedGap (fine t) edge).natAbs ≤ 256 * g)

/-- A candidate edge offered to the LLE (02 R22). -/
def State.offerCandidate (s : State) (t : Timestamp) : State :=
  if s.lle.lock.gated && s.lle.gateOpen && admits s.lle.edge s.gateWidth t then s.acceptEdge t else s

/-! ### Acquisition -/

/-- The distances from each edge of the set to the next (02 R28). -/
def intervals : List Timestamp → List Nat
  | [] => []
  | [_] => []
  | a :: b :: rest => forward a b :: intervals (b :: rest)

/-- The test of the acquisition edge set (02 R28): |k × i − S| ≤ 4 × k is written without subtraction. -/
def setPasses (edges : List Timestamp) : Bool :=
  let is := intervals edges
  let k := is.length
  let sum := is.sum
  is.all fun i =>
    decide (1536 ≤ i) && decide (i ≤ 2559) && decide (k * i ≤ sum + 4 * k) && decide (sum ≤ k * i + 4 * k)

/-- A set that fails loses its oldest edge and is tested again, until it passes (02 R28). -/
def trimmed : List Timestamp → List Timestamp
  | [] => []
  | t :: rest => if setPasses (t :: rest) then t :: rest else trimmed rest

/-- Acquisition begins from a set that passes with 8 edges (02 R29). -/
def LineLock.acquire (l : LineLock) (edges : List Timestamp) (last : Timestamp) : LineLock :=
  let period := (intervals edges).sum * 256 / 7
  { l with
    lock := .acquiring
    period := period
    edge := fine last + BitVec.ofNat 32 period
    goodCount := 0
    missCount := 0
    edgeSet := []
    gateEdge := none
    scheduled := none }

/-- An HS class in the search (02 R28, R29). -/
def LineLock.searchEdge (l : LineLock) (t : Timestamp) : LineLock :=
  let edges := trimmed (l.edgeSet ++ [t])
  if edges.length = 8 then l.acquire edges t else { l with edgeSet := edges }

/-- A class handed to the LLE with its leading timestamp (02 R19, R28). -/
def State.handClass (s : State) (c : PulseClass) (t : Timestamp) : State :=
  if s.lle.lock = .freeRun ∧ s.settings.reference = .lock then
    match c with
    | .hs => { s with lle := s.lle.searchEdge t }
    | .eq => { s with lle := { s.lle with edgeSet := [] } }
    | .broad => { s with lle := { s.lle with edgeSet := [] } }
    | .overlong => { s with lle := { s.lle with edgeSet := [] } }
  else s

/-! ### Field lengths (01 R17, 02 R34) and the standby transitions (02 R31, R32) -/

/-- The nominal length of a field of a parity (01 R17). -/
def nominalLength : LineStandard → Parity → Nat
  | .s625, .a => 313
  | .s625, .b => 312
  | .s525, .a => 263
  | .s525, .b => 262

/-- ENTER STANDBY in the LLE (02 R31). A line whose whole edge the counter has already reached is decided at the
command (log 19). -/
def State.standbyEntered (s : State) : State :=
  let l : LineLock :=
    { s.lle with
      lock := .standby
      period := s.settings.hspan * 256
      missCount := 0
      holdCount := 0
      goodCount := 0
      gateOpen := false
      gateEdge := none
      edgeSet := []
      lastError := none
      realign := 0
      fieldLines := nominalLength s.sq.standard s.sq.parity }
  { s with lle := if reached s.now (wholePart l.edge) then l.decideWithoutEdge else l }

/-- LEAVE STANDBY in the LLE (02 R32). -/
def State.standbyLeft (s : State) : State :=
  { s with lle := { s.lle with lock := .freeRun, period := s.settings.hspan * 256, edgeSet := [] } }

end Sys2Proof.Machine
end

