-- ==== Sys2Proof/Machine/Sync.lean ====
section
/-! DEFINITION. The Sync Qualifier (01): timing a pulse, classes, broad runs, and the field length histories. -/

namespace Sys2Proof.Machine

open Sys2Proof

/-! ### When the SQ's expiries are due -/

/-- The qualification expiry: leading timestamp + F (01 R2). -/
def State.qualifiesAt (s : State) : Timestamp :=
  s.sq.leading + BitVec.ofNat 24 s.sq.filterWidth

/-- QUALIFICATION_EXPIRY is due (01 R4). -/
def State.qualificationDue (s : State) : Bool :=
  !s.pins.resetLow && s.sq.pulseState == .timing && reached s.now s.qualifiesAt

/-- OVERLONG_EXPIRY is due: leading timestamp + 1101 reached in QUALIFIED (01 R2, R7). -/
def State.overlongDue (s : State) : Bool :=
  !s.pins.resetLow && s.sq.pulseState == .qualified && reached s.now (s.sq.leading + 1101)

/-- RUN_EXPIRY is due: the run's expiry has been reached and not yet taken (01 R10). -/
def State.runExpiryDue (s : State) : Bool :=
  match s.sq.run with
  | none => false
  | some r =>
    match r.expiry with
    | none => false
    | some t => !s.pins.resetLow && reached s.now t

/-! ### Pulse position (01 R5) -/

/-- The judgement against the HS reference in FREE-RUN and STANDBY (01 R5). -/
def State.nearReference (s : State) (t : Timestamp) : Bool :=
  match s.sq.hsReference with
  | none => false
  | some ref =>
    let q := s.lle.period / 256
    let r := forward ref t % q
    decide (r ≤ s.settings.gate) || decide (q - r ≤ s.settings.gate)

/-- The judgement against the latest acceptance gate to open, or E and the G in force while there is none (01 R5). -/
def State.nearGate (s : State) (t : Timestamp) : Bool :=
  match s.lle.gateEdge with
  | some g => admits g.edge g.halfWidth t
  | none => admits s.lle.edge s.settings.gate t

/-- Whether a leading edge fell at a line position (01 R5). -/
def State.judge (s : State) (t : Timestamp) : PulsePosition :=
  if s.lle.lock.gated then (if s.nearGate t then .atLine else .offLine)
  else if s.nearReference t then .atLine else .offLine

/-! ### A pulse -/

/-- A falling edge in IDLE begins a pulse (01 R2). -/
def State.beginPulse (s : State) : State :=
  { s with sq := { s.sq with
      leading := s.sq.counter
      filterWidth := s.settings.filter
      pulseState := .timing } }

/-- A pulse qualifies: its position is judged and its leading edge offered as a candidate (01 R4, R5). -/
def State.qualify (s : State) : State :=
  let s1 : State :=
    { s with sq := { s.sq with pulseState := .qualified, position := s.judge s.sq.leading } }
  s1.offerCandidate s.sq.leading

/-- The class of a width (01 R6). -/
def classOfWidth (width : Nat) : PulseClass :=
  if width ≤ 111 then .eq
  else if width ≤ 399 then .hs
  else if width ≤ 1100 then .broad
  else .overlong

/-- The run that a BROAD pulse begins (01 R8). -/
def SyncQualifier.newRun (q : SyncQualifier) : BroadRun where
  count := 1
  first := q.position
  last := q.leading
  recognised := false
  expiry := some (q.leading + 1150)

/-- The run after a BROAD pulse: begun, or continued at a spacing of 900-1150 cc (01 R8). -/
def SyncQualifier.runAfterBroad (q : SyncQualifier) : BroadRun :=
  match q.run with
  | none => q.newRun
  | some r =>
    if 900 ≤ forward r.last q.leading ∧ forward r.last q.leading ≤ 1150 then
      { r with count := r.count + 1, last := q.leading, expiry := some (q.leading + 1150) }
    else q.newRun

/-- The parity of a recognition (01 R11). -/
def parityOfFirst : PulsePosition → Parity
  | .atLine => .a
  | .offLine => .b

/-- A BROAD pulse in the broad run, with the field start recognition at the third (01 R8, R11, R12). -/
def SyncQualifier.afterBroad (q : SyncQualifier) : SyncQualifier :=
  let r := q.runAfterBroad
  if r.count = 3 ∧ r.recognised = false then
    { q with run := some { r with recognised := true }, recognition := some (parityOfFirst r.first) }
  else { q with run := some r }

/-- The SQ's own effects of a class: the HS reference and the broad run (01 R6, R7, R8, R9). -/
def SyncQualifier.afterClass (q : SyncQualifier) : PulseClass → SyncQualifier
  | .eq => { q with run := none }
  | .hs => { q with run := none, hsReference := some q.leading }
  | .broad => q.afterBroad
  | .overlong => { q with run := none, hsReference := none }

/-- A qualified pulse is classed: the class reaches the LLE, and then the SQ's own effects follow (01 R6, R7, R11). -/
def State.classify (s : State) (c : PulseClass) (next : PulseState) : State :=
  let s1 := s.handClass c s.sq.leading
  { s1 with sq := { s1.sq.afterClass c with pulseState := next } }

/-- The width of the current pulse at this reading (01 R6). -/
def State.pulseWidth (s : State) : Nat :=
  forward s.sq.leading s.sq.counter

/-- The end of a glitch (01 R3); a run whose expiry fell during it ends here (01 R10). -/
def SyncQualifier.afterGlitch (q : SyncQualifier) : SyncQualifier :=
  match q.run with
  | none => { q with pulseState := .idle }
  | some r => { q with pulseState := .idle, run := if r.expiry.isNone then none else some r }

/-- A rising edge in each pulse state (01 R2, R3, R4, R6, R7). -/
def State.endPulse (s : State) : State :=
  match s.sq.pulseState with
  | .waitHigh => { s with sq := { s.sq with pulseState := .idle } }
  | .idle => s
  | .timing =>
    if s.pulseWidth < s.sq.filterWidth then { s with sq := s.sq.afterGlitch }
    else s.qualify.classify (classOfWidth s.pulseWidth) .idle
  | .qualified => s.classify (classOfWidth s.pulseWidth) .idle
  | .overlong => { s with sq := { s.sq with pulseState := .idle } }

/-- The run expiry (01 R10): a pulse in progress decides; without one the run ends. -/
def SyncQualifier.afterRunExpiry (q : SyncQualifier) : SyncQualifier :=
  match q.pulseState with
  | .waitHigh => { q with run := none }
  | .idle => { q with run := none }
  | .timing => { q with run := q.run.map fun r => { r with expiry := none } }
  | .qualified => { q with run := q.run.map fun r => { r with expiry := none } }
  | .overlong => { q with run := q.run.map fun r => { r with expiry := none } }

/-! ### Field lengths and the line standard -/

/-- The class of a field length under a STANDARD setting (01 R14). -/
def classOfLength (setting : StandardSetting) (lines : Nat) : FieldClass :=
  if 300 ≤ lines ∧ lines ≤ 330 ∧ setting ≠ .force525 then .c625
  else if 250 ≤ lines ∧ lines ≤ 275 ∧ setting ≠ .force625 then .c525
  else .irregular

/-- The class of a length that may be UNKNOWN (01 R14). -/
def classOfEntry (setting : StandardSetting) : Option Nat → FieldClass
  | none => .irregular
  | some n => classOfLength setting n

/-- The standard that four agreeing classes show (01 R15). -/
def agreedStandard : List FieldClass → Option LineStandard
  | [.c625, .c625, .c625, .c625] => some .s625
  | [.c525, .c525, .c525, .c525] => some .s525
  | _ => none

/-- The standard test under AUTO, and the consequences of a change (01 R15, R17, 11 R179). -/
def State.standardTest (s : State) : State :=
  match agreedStandard s.sq.classes with
  | none => s
  | some std =>
    if s.settings.standard = .auto ∧ std ≠ s.sq.standard then
      ({ s with
          sq := { s.sq with standard := std }
          cpr := { s.cpr with attention := { s.cpr.attention with standardChanged := true } } } : State).raise
        .standardChanged
    else s

/-- A field length handed at a field start event: it is added to the histories (01 R14). -/
def State.handLength (s : State) (length : Option Nat) : State :=
  ({ s with sq := { s.sq with
      lengths := (length :: s.sq.lengths).take 2
      classes := (classOfEntry s.settings.standard length :: s.sq.classes).take 4 } } : State).standardTest

/-- A field length handed at a re-alignment: it takes the place of the newest entry (01 R14). -/
def State.replaceLength (s : State) (length : Nat) : State :=
  ({ s with sq := { s.sq with
      lengths := some length :: s.sq.lengths.drop 1
      classes := classOfLength s.settings.standard length :: s.sq.classes.drop 1 } } : State).standardTest

end Sys2Proof.Machine
end

