-- ==== Sys2Proof/Machine/Slaving.lean ====
section
/-! DEFINITION. The Slave Timing Generator (03): the pixel increment, CHS, CVS, and numbering the samples. -/

namespace Sys2Proof.Machine

open Sys2Proof

/-- CHS is due: the reading at which the awaited CHS falls has been reached (03 R46). -/
def State.chsDue (s : State) : Bool :=
  match s.stg.chsAt with
  | none => false
  | some t => !s.pins.resetLow && s.stg.awaiting && reached s.now t

/-- CHS_PULSE_END is due: 64 cc after the latest CHS (03 R46). -/
def State.chsPulseEndDue (s : State) : Bool :=
  match s.stg.chsLowUntil with
  | none => false
  | some t => !s.pins.resetLow && reached s.now t

/-- PIXEL_SAMPLE is due: a PXCK rising edge of this cc is not yet sampled. A CHS or a line start due at this cc
comes first, since a CHS takes the place of the cc's advance (03 R46; log 5). -/
def State.pixelSampleDue (s : State) : Bool :=
  !s.pins.resetLow && s.stg.sampleDue && !s.chsDue && !s.lineStartDue

/-- I = floor(PIXTOTAL × 2^40 / P) (03 R44). -/
def pixelIncrement (pixTotal period : Nat) : BitVec 32 :=
  BitVec.ofNat 32 (pixTotal * 2 ^ 40 / period)

/-- Whether the CVS decision at a CHS drives CVS low (03 R50). -/
def SlaveTiming.startsCvs (g : SlaveTiming) (line vdelay : Nat) : Bool :=
  !g.cvsDone && decide (2 + vdelay ≤ line)

/-- The STG's effects of a CHS for `line`, at reading `now` (03 R46, R50). The accumulator is loaded in place of
the advance of this cc, and a carry of that advance is not made. -/
def SlaveTiming.emitChs (g : SlaveTiming) (now : Timestamp) (cpixLat line vdelay : Nat) : SlaveTiming :=
  { g with
    chsLowUntil := some (now + 64)
    accumulator := BitVec.ofNat 32 (g.hphase * 2 ^ 24)
    edgeNow := false
    sampleDue := false
    sampleCount := 0
    lineCpixLat := cpixLat
    chsLine := line
    cvsLow := g.startsCvs line vdelay
    cvsDone := g.cvsDone || g.startsCvs line vdelay
    awaiting := false
    chsAt := none }

/-- At a CHS the waiting list and master level become the keying ones (08 R141). -/
def SpanKeyer.takeWaiting (k : SpanKeyer) : SpanKeyer :=
  match k.waiting with
  | none => k
  | some spans => { k with keying := spans, keyingMaster := k.waitingMaster, waiting := none }

/-- A CHS for `line` (03 R46, 08 R141). -/
def State.emitChs (s : State) (line vdelay : Nat) : State :=
  { s with
    stg := s.stg.emitChs s.now s.settings.cpixLat line vdelay
    sbk := s.sbk.takeWaiting }

/-- A line start in the STG: I and the line PIXTOTAL are taken, and the count for the CHS begins. With an HDELAY of
0 the CHS falls at this cc (03 R44, R46). -/
def State.beginLine (s : State) : State :=
  { s with stg := { s.stg with
      increment := pixelIncrement s.settings.pixTotal s.lle.period
      linePixTotal := s.settings.pixTotal
      awaiting := true
      delayCount := 0
      lineHdelay := s.stg.hdelay
      chsAt := if s.stg.hdelay = 0 then some s.now else none } }

/-- What sample `k` after the latest CHS is: a numbered pixel of the keying list, or unkeyed (03 R48). -/
def State.keyNumbered (s : State) (k : Nat) (index : BitVec 4) : KeyedSample :=
  if k ≤ s.stg.lineCpixLat then .clear
  else if k - s.stg.lineCpixLat - 1 < s.stg.linePixTotal then
    s.sbk.keyPixel (k - s.stg.lineCpixLat - 1) index
  else .clear

/-- The delay count at a PXCK rising edge: the edge that brings it to line HDELAY sets the CHS for the cc that
follows (03 R46). -/
def SlaveTiming.countEdge (g : SlaveTiming) (now : Timestamp) : SlaveTiming :=
  if g.awaiting then
    { g with
      delayCount := g.delayCount + 1
      chsAt := if g.delayCount + 1 = g.lineHdelay then some (now + 1) else g.chsAt }
  else g

/-- A PXCK rising edge: CPIX is sampled, the sample counted, numbered and keyed (03 R46, R48). -/
def State.takeSample (s : State) (index : BitVec 4) : State :=
  let k := min (s.stg.sampleCount + 1) 2047
  { s with
    pins := { s.pins with cpix := index }
    stg := { s.stg.countEdge s.now with sampleCount := k, sampleDue := false }
    sbk := { s.sbk with handed := some (s.keyNumbered k index) } }

end Sys2Proof.Machine
end

