-- ==== Sys2Proof/Machine/LineStart.lean ====
section
/-! DEFINITION. The line start (02 R21, R34 to R41): the vertical decision, and what the other blocks do at it. -/

namespace Sys2Proof.Machine

open Sys2Proof

/-- What a line start carries (02 R21). -/
structure LineCarries where
  fieldStart : Bool
  fieldStep : Bool
deriving DecidableEq, Repr

/-- Following mode: REFERENCE = LOCK outside STANDBY (02, "Fields and line numbering"). -/
def State.following (s : State) : Bool :=
  s.settings.reference == .lock && s.lle.lock != .standby

/-- The length predicted in following mode: the older entry of the length history where it is a number whose class
is 625 or 525, else the nominal length (02 R34). -/
def SyncQualifier.predicted (q : SyncQualifier) : Nat :=
  match q.lengths, q.classes with
  | [_, some n], _ :: c :: _ => if c = .irregular then nominalLength q.standard q.parity else n
  | _, _ => nominalLength q.standard q.parity

/-- The field start event in the LLE: the field counter advances (02 R41). -/
def LineLock.countField (l : LineLock) : LineLock :=
  { l with fieldCounter := l.fieldCounter + 1 }

/-- FIELD IRREGULAR is raised and counted while LOCKED or FLYWHEEL (02 R35, R37, R42). -/
def State.irregularField (s : State) : State :=
  if s.lle.lock.lockedFlag then
    ({ s with lle := { s.lle with irregularFields := saturate 255 (s.lle.irregularFields + 1) } } : State).raise
      .fieldIrregular
  else s

/-- The current parity set (01 R13). -/
def State.setParity (s : State) (p : Parity) : State :=
  { s with sq := { s.sq with parity := p } }

/-- A real field start (02 R35). -/
def State.realFieldStart (s : State) (y' : Nat) (p : Parity) : State :=
  let s1 := s.handLength (some (y' - 2))
  let s2 := if y' = s.lle.fieldLines + 2 then s1 else s1.irregularField
  let s3 := s2.setParity p
  { s3 with lle := { s3.lle.countField with
      paritySure := true
      synthRun := 0
      y := 2
      stepTaken := false
      fieldLines := s3.sq.predicted } }

/-- A field start made by the vertical flywheel (02 R36). -/
def State.flywheelFieldStart (s : State) : State :=
  let s1 := (s.handLength none).setParity s.sq.parity.other
  let run := min 4 (s.lle.synthRun + 1)
  { s1 with lle := { s1.lle.countField with
      closedLines := s.lle.fieldLines
      synthRun := run
      paritySure := if run = 4 then false else s1.lle.paritySure
      verticalMisses := saturate 255 (s1.lle.verticalMisses + 1)
      y := 4
      stepTaken := true
      fieldLines := s1.sq.predicted
      realign := 8 } }

/-- A re-alignment of the field that the vertical flywheel began (02 R37): no field start event, and step taken
stays as it is. -/
def State.realignment (s : State) (y' : Nat) (p : Parity) : State :=
  let s1 := (s.replaceLength (s.lle.closedLines + y' - 2)).setParity p
  let s2 := s1.irregularField
  { s2 with lle := { s2.lle with
      y := 2
      paritySure := true
      synthRun := 0
      realign := 0
      fieldLines := s2.sq.predicted } }

/-- A free field start (02 R38): no length is handed, and the parity status and the synthesised run stay. -/
def State.freeFieldStart (s : State) : State :=
  let s1 := s.setParity s.sq.parity.other
  { s1 with lle := { s1.lle.countField with
      y := 2
      stepTaken := false
      fieldLines := nominalLength s1.sq.standard s1.sq.parity } }

/-- A line without a field start or a re-alignment takes y′, and at y = 3 carries the field step unless the field has
had it or the part is in STANDBY (02 R21, R40). -/
def State.plainLine (s : State) (y' : Nat) : State × LineCarries :=
  let step := y' == 3 && !s.lle.stepTaken && s.lle.lock != .standby
  ({ s with lle := { s.lle with y := y', stepTaken := s.lle.stepTaken || step } },
   { fieldStart := false, fieldStep := step })

/-- The re-align window decreases at each line start that does not re-align (02 R37). -/
def State.narrowWindow (s : State) : State :=
  { s with lle := { s.lle with realign := s.lle.realign - 1 } }

/-- The vertical decision of a line start (02 R21, R35 to R38): the pending recognition is taken, and the line begins
with a field start, a re-alignment or neither. -/
def State.decideVertical (s : State) : State × LineCarries :=
  let y' := s.lle.y + 1
  let s1 : State := { s with sq := { s.sq with recognition := none } }
  if s.following then
    match s.sq.recognition with
    | some p =>
      if s.lle.realign = 0 then (s1.realFieldStart y' p, { fieldStart := true, fieldStep := false })
      else (s1.realignment y' p, { fieldStart := false, fieldStep := false })
    | none =>
      if y' = s.lle.fieldLines + 4 then (s1.flywheelFieldStart, { fieldStart := true, fieldStep := true })
      else s1.narrowWindow.plainLine y'
  else if s.lle.fieldLines + 2 ≤ y' then (s1.freeFieldStart, { fieldStart := true, fieldStep := false })
  else s1.plainLine y'

/-- At a field start event CVS done and overflow reported become NO (03 R50, 08 R140). -/
def State.beginField (s : State) : State :=
  { s with
    stg := { s.stg with cvsDone := false }
    sbk := { s.sbk with overflowReported := false } }

/-- A line start that finds a CHS awaited emits it first, for the line that led to it and by that line's field, unless
the new line's HDELAY is 0 and the two merge (03 R47, 08 R141; log 9). `line` and `vdelay` are those of the old line. -/
def State.emitAwaited (s : State) (line vdelay : Nat) : State :=
  if s.stg.awaiting ∧ s.stg.hdelay ≠ 0 then s.emitChs line vdelay else s

/-- The field step and the cue work of a line start, in the given order (09 R157). DESIGN CHOICE (logs 4 and 25): all four
lines, those in TALLY too, are sampled on the same side of the step. -/
def State.stepAndCues (s : State) (fieldStep cueFirst : Bool) : State :=
  if fieldStep = false then s.cueWork
  else if cueFirst then s.cueWork.fieldStep
  else s.fieldStep.cueWork

/-- A line start (02 R21): the LLE settles the line; the queue commits (07 R127); an awaited CHS is emitted (03 R47);
the STG begins the line (03 R44, R46); the span list is built (08 R136) before any field step (05 R83); and the cue
lines are sampled (09 R156). -/
def State.lineStart (s : State) (cues : CueLevels) (cueFirst : Bool) : State :=
  let s1 : State :=
    { s with pins := { s.pins with cues := cues }, lle := { s.lle with scheduled := none } }
  let d := s1.decideVertical
  let s2 := if d.2.fieldStart then d.1.commit else d.1
  let s3 := s2.emitAwaited s.lle.y s.stg.vdelay
  let s4 := if d.2.fieldStart then s3.beginField else s3
  s4.beginLine.buildSpans.stepAndCues d.2.fieldStep cueFirst

end Sys2Proof.Machine
end

