-- ==== Sys2Proof/Machine/Power.lean ====
section
/-! DEFINITION. Power-on and pin reset (10 R170 and the tables of 01 R18, 02 R43, 03 R56, 04 R78, 08 R146, R148, R154,
09 R162, 11 R171, R185). -/

namespace Sys2Proof.Machine

open Sys2Proof

/-- Every block at the values that power-on and a pin reset share, over the palette entries they leave and with the
attention reason of the reset. The queue of commands, the outside levels and the count of free values stay. -/
def State.restarted (s : State) (csync : Level) (entries : List Colour) (attention : Attention) : State where
  sq := SyncQualifier.initial csync
  lle := LineLock.initial
  stg := SlaveTiming.initial
  titles := initialTitles
  aq := AmendmentQueue.initial
  sbk := SpanKeyer.initial (entries.getD 0 Colour.black)
  op := Palette.initial entries
  clu := CueLines.initial
  cpr := CommandPort.initial attention
  settings := Settings.defaults
  pins := { s.pins with resetLow := false, csync := csync }
  freeIndex := s.freeIndex
  pending := s.pending

/-- Power-on ends (10 R170). -/
def State.powerOn (s : State) (csync : Level) : State :=
  s.restarted csync blackEntries { Attention.empty with powerOn := true }

/-- A pin reset ends: the palette entries are kept (10 R170, 08 R149). -/
def State.pinReset (s : State) : State :=
  s.restarted s.pins.csync s.op.entries { Attention.empty with pinReset := true }

/-- RESET goes low (03 R56, 08 R146, 11 R171): the pulse and the command in progress are abandoned, PXCK is low, CHS
and CVS are high, COL and MIX are 0. INT, CFLD and the cue drive follow from the pin (log 10). -/
def State.pinResetStart (s : State) : State :=
  { s with
    pins := { s.pins with resetLow := true }
    sq := { s.sq with pulseState := pulseStateAt s.pins.csync }
    stg := { s.stg with
      cvsLow := false, chsLowUntil := none, edgeNow := false, edgeLast := false, sampleDue := false }
    sbk := { s.sbk with handed := none, col := Colour.black, mix := 0 }
    cpr := { s.cpr with collecting := none } }

/-- A CSYNC edge while RESET is low moves the pin, and nothing is timed (01 R18; log 8). -/
def State.csyncDuringReset (s : State) (level : Level) : State :=
  { s with
    pins := { s.pins with csync := level }
    sq := { s.sq with pulseState := pulseStateAt level } }

end Sys2Proof.Machine
end

