-- ==== Sys2Proof/Machine/Clock.lean ====
section
/-! DEFINITION. The part's own clock: one cc, and the clock event that is due (log 1). -/

namespace Sys2Proof.Machine

open Sys2Proof

/-- The phase accumulator at one cc: it advances by I, and a carry makes a PXCK rising edge (03 R45). -/
def SlaveTiming.advance (g : SlaveTiming) : SlaveTiming :=
  let carry := decide (2 ^ 32 ≤ g.accumulator.toNat + g.increment.toNat)
  { g with
    accumulator := g.accumulator + g.increment
    edgeLast := g.edgeNow
    edgeNow := carry
    sampleDue := carry }

/-- One cc of CLKIN: the counter advances (01 R1), the sample keyed at the cc before is driven (08 R147), and the
accumulator advances (03 R45). While RESET is low only the counter advances (03 R56; log 8). -/
def State.tick (s : State) : State :=
  let s1 : State := { s with sq := { s.sq with counter := s.sq.counter + 1 } }
  if s.pins.resetLow then s1
  else
    let s2 := s1.driveSample
    { s2 with stg := s2.stg.advance }

/-- The clock event that the part takes at this cc by itself, the first of this order that is due. Where the spec
leaves the order of two of them open, this order is the model's choice (log 1, 5); a sender who wants the other puts the
events into the queue. The cue lines and CPIX stand at the levels last brought. -/
def State.dueEvent (s : State) : Option Instr :=
  if s.qualificationDue then some .qualificationExpiry
  else if s.overlongDue then some .overlongExpiry
  else if s.runExpiryDue then some .runExpiry
  else if s.gateOpenDue then some .gateOpen
  else if s.gateDecisionDue then some .gateDecisionExpiry
  else if s.freeLineDue then some .freeLineDecision
  else if s.chsDue then some .chs
  else if s.lineStartDue then some (.lineStart s.pins.cues (Config.cueWorkFirst s.freeIndex))
  else if s.chsPulseEndDue then some .chsPulseEnd
  else if s.pixelSampleDue then some (.pixelSample s.pins.cpix)
  else none

/-- The free value of `Config.cueWorkFirst` at `freeIndex` is used up. -/
def State.useFreeValue (s : State) : State :=
  { s with freeIndex := s.freeIndex + 1 }

end Sys2Proof.Machine
end

