-- ==== Sys2Proof/Machine/ClockSteps.lean ====
section
/-! DEFINITION. The meanings of power, reset, CSYNC and the part's own clock events. An event that is not due, or an
edge toward the level CSYNC already has, cannot occur and stops by name (log 3). -/

namespace Sys2Proof.Machine

open Sys2Proof

/-- POWER_ON (10 R170). -/
def execPowerOn (csync : Level) (s : State) : Host.Outcome State Fault Refusal :=
  .next (s.powerOn csync)

/-- PIN_RESET_START (03 R56). -/
def execPinResetStart (s : State) : Host.Outcome State Fault Refusal :=
  .next s.pinResetStart

/-- PIN_RESET (10 R170). -/
def execPinReset (s : State) : Host.Outcome State Fault Refusal :=
  .next s.pinReset

/-- CSYNC_FALLING_EDGE (01 R2): in IDLE a pulse begins. CSYNC is high only in IDLE. -/
def execCsyncFallingEdge (s : State) : Host.Outcome State Fault Refusal :=
  if s.pins.csync = .low then .fault .edgeCannotOccur
  else if s.pins.resetLow then .next (s.csyncDuringReset .low)
  else if s.sq.pulseState = .idle then
    .next { s.beginPulse with pins := { s.pins with csync := .low } }
  else .fault .edgeCannotOccur

/-- CSYNC_RISING_EDGE (01 R2, R3, R4, R6, R7). -/
def execCsyncRisingEdge (s : State) : Host.Outcome State Fault Refusal :=
  if s.pins.csync = .high then .fault .edgeCannotOccur
  else if s.pins.resetLow then .next (s.csyncDuringReset .high)
  else if s.sq.pulseState = .idle then .fault .edgeCannotOccur
  else .next { s.endPulse with pins := { s.pins with csync := .high } }

/-- QUALIFICATION_EXPIRY (01 R4). -/
def execQualificationExpiry (s : State) : Host.Outcome State Fault Refusal :=
  if s.qualificationDue then .next s.qualify else .fault .eventNotDue

/-- OVERLONG_EXPIRY (01 R7). -/
def execOverlongExpiry (s : State) : Host.Outcome State Fault Refusal :=
  if s.overlongDue then .next (s.classify .overlong .overlong) else .fault .eventNotDue

/-- RUN_EXPIRY (01 R10). -/
def execRunExpiry (s : State) : Host.Outcome State Fault Refusal :=
  if s.runExpiryDue then .next { s with sq := s.sq.afterRunExpiry } else .fault .eventNotDue

/-- GATE_OPEN (02 R22): the gate opens with the G in force, and the gate edge is E with that G. -/
def execGateOpen (s : State) : Host.Outcome State Fault Refusal :=
  if s.gateOpenDue then
    .next { s with lle := { s.lle with
      gateOpen := true
      gateEdge := some { edge := s.lle.edge, halfWidth := s.settings.gate } } }
  else .fault .eventNotDue

/-- GATE_DECISION_EXPIRY (02 R22, R24, R26, R27, R30): the line is missing. -/
def execGateDecisionExpiry (s : State) : Host.Outcome State Fault Refusal :=
  if s.gateDecisionDue then .next s.missingLine else .fault .eventNotDue

/-- FREE_LINE_DECISION (02 R24). -/
def execFreeLineDecision (s : State) : Host.Outcome State Fault Refusal :=
  if s.freeLineDue then .next { s with lle := s.lle.decideWithoutEdge } else .fault .eventNotDue

/-- LINE_START (02 R21). -/
def execLineStart (cues : CueLevels) (cueFirst : Bool) (s : State) : Host.Outcome State Fault Refusal :=
  if s.lineStartDue then .next (s.lineStart cues cueFirst) else .fault .eventNotDue

/-- PIXEL_SAMPLE (03 R48, 08 R144). -/
def execPixelSample (cpix : BitVec 4) (s : State) : Host.Outcome State Fault Refusal :=
  if s.pixelSampleDue then .next (s.takeSample cpix) else .fault .eventNotDue

/-- CHS (03 R46): for the line in progress. -/
def execChs (s : State) : Host.Outcome State Fault Refusal :=
  if s.chsDue then .next (s.emitChs s.lle.y s.stg.vdelay) else .fault .eventNotDue

/-- CHS_PULSE_END (03 R46). -/
def execChsPulseEnd (s : State) : Host.Outcome State Fault Refusal :=
  if s.chsPulseEndDue then .next { s with stg := { s.stg with chsLowUntil := none } }
  else .fault .eventNotDue

end Sys2Proof.Machine
end

