-- ==== Sys2Proof/Machine/Settings.lean ====
section
/-! DEFINITION. Standby, the operating settings and the cue line commands (10, 09 R159 to R161). -/

namespace Sys2Proof.Machine

open Sys2Proof

/-! ### Standby (10 R163, R164) -/

/-- ENTER STANDBY (10 R163). -/
def doEnterStandby (s : State) : Performed :=
  if s.lle.lock = .standby then s.refuse (Reply.check .wrongState s.lle.lock.code 0 0)
  else (s.standbyEntered, Reply.good [])

/-- LEAVE STANDBY (10 R164). -/
def doLeaveStandby (s : State) : Performed :=
  if s.lle.lock = .standby then (s.standbyLeft, Reply.good [])
  else s.refuse (Reply.check .wrongState s.lle.lock.code 0 0)

/-! ### SET MODE (10 R166, R167) -/

/-- The lowest and highest value of a numeric setting (10, table of settings). -/
def settingRange (item : Nat) : Nat × Nat :=
  match item with
  | 3 => (256, 1024)
  | 4 => (4, 39)
  | 5 => (1536, 2559)
  | 6 => (0, 6)
  | 7 => (4, 10)
  | 8 => (8, 200)
  | 9 => (1, 63)
  | 10 => (1, 15)
  | 11 => (1, 255)
  | 12 => (0, 63)
  | _ => (0, 15)

/-- Whether the value is one of the codes of a choice setting; a numeric item has no choices (10 R166). -/
def settingChoiceOk (item value : Nat) : Bool :=
  match item with
  | 1 => (StandardSetting.ofCode value).isSome
  | 2 => (Reference.ofCode value).isSome
  | _ => true

/-- The value a setting takes: a choice as given, a number clamped (10 R166). -/
def settingValue (item value : Nat) : Nat :=
  if item ≤ 2 then value else clamp (settingRange item).1 (settingRange item).2 value

/-- The standard a forced STANDARD setting stands for (01 R16). -/
def StandardSetting.forced : StandardSetting → Option LineStandard
  | .auto => none
  | .force625 => some .s625
  | .force525 => some .s525

/-- A write of STANDARD (01 R16). A write of the value it has changes nothing. -/
def State.writeStandard (s : State) (v : StandardSetting) : State :=
  if v = s.settings.standard then s
  else
    { s with
      settings := { s.settings with standard := v }
      sq := { s.sq with classes := [], standard := v.forced.getD s.sq.standard } }

/-- A setting written, and what takes it up at the command (10 R167). -/
def State.writeSetting (s : State) (item value : Nat) : State :=
  let g := s.settings
  match item with
  | 1 =>
    match StandardSetting.ofCode value with
    | none => s
    | some v => s.writeStandard v
  | 2 =>
    match Reference.ofCode value with
    | none => s
    | some v => { s with settings := { g with reference := v } }
  | 3 => { s with settings := { g with pixTotal := value } }
  | 4 => { s with settings := { g with filter := value } }
  | 5 =>
    if value = g.hspan then s
    else { s with settings := { g with hspan := value }, lle := { s.lle with period := value * 256 } }
  | 6 => { s with settings := { g with kp := value } }
  | 7 => { s with settings := { g with kf := value } }
  | 8 => { s with settings := { g with gate := value } }
  | 9 => { s with settings := { g with window := value } }
  | 10 =>
    { s with
      settings := { g with slipLimit := value }
      lle := { s.lle with missCount := min s.lle.missCount (value - 1) } }
  | 11 =>
    { s with
      settings := { g with holdLimit := value }
      lle := { s.lle with holdCount := min s.lle.holdCount value } }
  | 12 => { s with settings := { g with masterLevel := value } }
  | 13 => { s with settings := { g with cpixLat := value } }
  | _ => s

/-- SET MODE (10 R166). -/
def doSetMode (ps : List Byte) (s : State) : Performed :=
  let item := byteAt ps 1
  let value := wordAt ps 2
  if item < 1 ∨ 13 < item then s.refuse (Reply.badItem 1)
  else if settingChoiceOk item value = false then s.refuse (Reply.badChoice 2)
  else if item ≤ 5 ∧ s.lle.lock ≠ .standby then s.refuse (Reply.check .notInStandby s.lle.lock.code 0 0)
  else
    (s.writeSetting item (settingValue item value),
     if settingValue item value = value then Reply.good [] else Reply.adjusted 0 2 [])

/-- The value REPORT MODE returns (10 R168). -/
def State.settingOf (s : State) (item : Nat) : Nat :=
  let g := s.settings
  match item with
  | 1 => g.standard.code
  | 2 => g.reference.code
  | 3 => g.pixTotal
  | 4 => g.filter
  | 5 => g.hspan
  | 6 => g.kp
  | 7 => g.kf
  | 8 => g.gate
  | 9 => g.window
  | 10 => g.slipLimit
  | 11 => g.holdLimit
  | 12 => g.masterLevel
  | 13 => g.cpixLat
  | 14 => s.cpr.enables.toNat
  | 15 => s.stg.hdelay
  | 16 => s.stg.vdelay
  | _ => s.stg.hphase

/-- REPORT MODE (10 R168). -/
def doReportMode (ps : List Byte) (s : State) : Performed :=
  let item := byteAt ps 1
  if item < 1 ∨ 17 < item then s.refuse (Reply.badItem 1)
  else (s, Reply.good (wordBytes (s.settingOf item)))

/-- SET EVENTS (10 R169): a kind whose enable is cleared stops being pending. -/
def doSetEvents (ps : List Byte) (s : State) : Performed :=
  let set := wordAt ps 1
  if 4096 ≤ set then s.refuse (Reply.badChoice 2)
  else
    ({ s with cpr := { s.cpr with
        enables := BitVec.ofNat 16 set
        events := s.cpr.events &&& BitVec.ofNat 16 set } }, Reply.good [])

/-! ### Cue line commands (09 R159 to R161) -/

/-- The line a line number 0 to 3 names. -/
def cueLineOf : Nat → Option (Fin 4)
  | 0 => some 0
  | 1 => some 1
  | 2 => some 2
  | 3 => some 3
  | _ => none

/-- A line put into INPUT (09 R159). -/
def CueLine.toInput (l : CueLine) : CueLine :=
  match l.role with
  | .input => l
  | .tally _ => CueLine.retaken .input

/-- A line put into TALLY for a handle; a line already in TALLY keeps its level (09 R159). -/
def CueLine.toTally (h : Nat) (l : CueLine) : CueLine :=
  match l.role with
  | .input => CueLine.retaken (.tally h)
  | .tally _ => { l with role := .tally h }

/-- SET CUE LINE (09 R159). -/
def doSetCueLine (ps : List Byte) (s : State) : Performed :=
  match cueLineOf (byteAt ps 1) with
  | none => s.refuse (Reply.badChoice 1)
  | some n =>
    match byteAt ps 2 with
    | 0 => ({ s with clu := s.clu.put n (s.clu.get n).toInput }, Reply.good [])
    | 1 =>
      s.onTitle (byteAt ps 3) fun _ =>
        ({ s with clu := s.clu.put n ((s.clu.get n).toTally (byteAt ps 3)) }, Reply.good [])
    | _ => s.refuse (Reply.badChoice 2)

/-- One line's entry of REPORT CUE LINES (09 R161). -/
def cueLineBytes (l : CueLine) : List Byte :=
  match l.role with
  | .input => [0, 0, byteOf l.qualified.code]
  | .tally h => [1, byteOf h, byteOf l.qualified.code]

/-- REPORT CUE LINES (09 R161). -/
def doReportCueLines (s : State) : Performed :=
  (s, Reply.good (cueLineBytes s.clu.c0 ++ cueLineBytes s.clu.c1 ++ cueLineBytes s.clu.c2 ++ cueLineBytes s.clu.c3))

end Sys2Proof.Machine
end

