-- ==== Sys2Proof/Machine/Reports.lean ====
section
/-! DEFINITION. The reports of the CPR and of the LLE: REPORT CONDITION, REPORT LOCK, READ EVENTS, READ NOTICES
(11 R178, R183, R184; 02 R42). -/

namespace Sys2Proof.Machine

open Sys2Proof

/-- The ten bytes of the condition record, byte 6 with every reason pending at the command added (11 R178). -/
def conditionBytes (c : Condition) (pendingReasons : Attention) : List Byte :=
  [c.completion.code, byteOf c.key.code, byteOf c.code, byteOf c.handle, byteOf c.param,
   byteOf (c.reasons.union pendingReasons).code, c.lastCommand]
    ++ wordBytes c.fieldCounter.toNat ++ [byteOf c.occupancy]

/-- How many bytes of the record a length asks for (11 R178). -/
def conditionLength (n : Nat) : Nat :=
  if n ≤ 4 then 4 else min n 10

/-- REPORT CONDITION: performed even while attention is pending, and the record is not replaced (11 R176, R178). -/
def State.reportCondition (s : State) (n : Nat) : State :=
  let s1 := s.placeResults
    (Reply.good ((conditionBytes s.cpr.condition s.cpr.attention).take (conditionLength n)))
  { s1 with lle := { s1.lle with reportRun := false } }

/-- The last e as reported, 0 when it is absent (02 R42). -/
def LineLock.errorReported (l : LineLock) : Int :=
  match l.lastError with
  | none => 0
  | some e => e

/-- The data bytes of REPORT LOCK (11, "REPORT LOCK result"; y in its low 16 bits, log 14). -/
def State.lockBytes (s : State) : List Byte :=
  let l := s.lle
  [byteOf l.lock.code, byteOf s.sq.standard.code, byteOf s.sq.parity.code, byteOf (boolCode (!l.paritySure))]
    ++ tripleBytes l.period ++ tripleBytes (BitVec.ofInt 24 l.errorReported).toNat
    ++ wordBytes l.flywheelLines
    ++ [byteOf l.slips, byteOf l.verticalMisses, byteOf l.irregularFields]
    ++ wordBytes l.fieldCounter.toNat ++ wordBytes l.y

/-- The statistics set to 0 (02 R42). -/
def LineLock.clearStatistics (l : LineLock) : LineLock :=
  { l with flywheelLines := 0, slips := 0, verticalMisses := 0, irregularFields := 0 }

/-- REPORT LOCK: the statistics are cleared when report run is NO, and report run becomes YES (02 R42). -/
def State.reportLock (s : State) : State :=
  let l := if s.lle.reportRun then s.lle else s.lle.clearStatistics
  let s1 := finish Command.reportLock.code (s, Reply.good s.lockBytes)
  { s1 with lle := { l with reportRun := true } }

/-- What of the pending set stays after READ EVENTS: TITLE ACTIVITY while the notice store holds a notice (11 R183). -/
def State.eventsLeft (s : State) : EventSet :=
  if s.noNotices then 0 else s.cpr.events &&& BitVec.twoPow 16 EventKind.titleActivity.bit

/-- READ EVENTS (11 R183). -/
def doReadEvents (s : State) : Performed :=
  ({ s with cpr := { s.cpr with events := s.eventsLeft } }, Reply.good (wordBytes s.cpr.events.toNat))

/-- The handles with notices, ascending (11 R184). -/
def State.noticed (s : State) : List Nat :=
  handles.filter fun h => !(s.noticeSet h).isEmpty

/-- READ NOTICES (11 R184). -/
def doReadNotices (s : State) : Performed :=
  (s.clearAllNotices,
   Reply.good (byteOf s.noticed.length
     :: s.noticed.flatMap fun h => [byteOf h, byteOf (s.noticeSet h).code]))

end Sys2Proof.Machine
end

