-- ==== Sys2Proof/Machine/Port.lean ====
section
/-! DEFINITION. The command port (11 R171 to R176): performing a command, and the accesses to the two addresses. -/

namespace Sys2Proof.Machine

open Sys2Proof

/-! ### The sequencing commands (05 R80) -/

/-- A command to one title: the handle check and the phase check (05 R80). -/
def State.sequence (s : State) (h : Nat) (work : Title → Option TitleWork) : Performed :=
  s.onTitle h fun t =>
    match work t with
    | none => s.refuse (Reply.wrongPhase h t)
    | some r => (s.settleTitle h r, Reply.good [])

/-- HALT: the mode is examined before the handle (05 R80, R94, R95). -/
def doHalt (ps : List Byte) (s : State) : Performed :=
  match byteAt ps 2 with
  | 0 => s.sequence (byteAt ps 1) haltTitle
  | 1 => s.sequence (byteAt ps 1) slowHaltTitle
  | _ => s.refuse (Reply.badChoice 0)

/-- CUT ALL (05 R98). -/
def doCutAll (s : State) : Performed :=
  (s.cutTitles, Reply.good [])

/-! ### Performing -/

/-- A command performed with its parameter bytes (11 R176). Its parameters are whole, and nothing is being collected. -/
def perform (c : Command) (ps : List Byte) (s : State) : State :=
  match c with
  | .createTitle => performWith c.code (doCreateTitle ps) s
  | .amendTitle => performWith c.code (doAmendTitle ps) s
  | .queryTitle => performWith c.code (doQueryTitle ps) s
  | .listTitles => performWith c.code (doListTitles ps) s
  | .hitTest => performWith c.code (doHitTest ps) s
  | .retireTitle => performWith c.code (doRetireTitle ps) s
  | .resetTitles => performWith c.code doResetTitles s
  | .arm => performWith c.code (fun s => s.sequence (byteAt ps 1) armTitle) s
  | .disarm => performWith c.code (fun s => s.sequence (byteAt ps 1) disarmTitle) s
  | .start => performWith c.code (fun s => s.sequence (byteAt ps 1) startTitle) s
  | .leave => performWith c.code (fun s => s.sequence (byteAt ps 1) leaveTitle) s
  | .halt => performWith c.code (doHalt ps) s
  | .resume => performWith c.code (fun s => s.sequence (byteAt ps 1) resumeTitle) s
  | .rearm => performWith c.code (fun s => s.sequence (byteAt ps 1) rearmTitle) s
  | .cutAll => performWith c.code doCutAll s
  | .setTiming => performWith c.code (doSetTiming ps) s
  | .holdAmendments => performWith c.code (fun s => s.setHeld true) s
  | .applyAmendments => performWith c.code (fun s => s.setHeld false) s
  | .queryPending => performWith c.code doQueryPending s
  | .discardPending => performWith c.code (doDiscardPending ps) s
  | .setMode => performWith c.code (doSetMode ps) s
  | .reportMode => performWith c.code (doReportMode ps) s
  | .setEvents => performWith c.code (doSetEvents ps) s
  | .enterStandby => performWith c.code doEnterStandby s
  | .leaveStandby => performWith c.code doLeaveStandby s
  | .setCueLine => performWith c.code (doSetCueLine ps) s
  | .reportCueLines => performWith c.code doReportCueLines s
  | .reportCondition => s.reportCondition (byteAt ps 1)
  | .reportLock => if s.cpr.attention.any then s.answerAttention c.code else s.reportLock
  | .readEvents => performWith c.code doReadEvents s
  | .readNotices => performWith c.code doReadNotices s

/-- A code that names no command is refused (11 R176). -/
def refuseUnknown (code : Byte) (s : State) : State :=
  performWith code (fun s => s.refuse (Reply.check .illegalRequest codeUnknownCommand 0 0)) s

/-! ### Accesses -/

/-- PORT FAULT set (11 R173). -/
def State.portFault (s : State) : State :=
  { s with cpr := { s.cpr with portFault := true } }

/-- Steps 1 and 2 of a write to the command address: a command being collected is abandoned with PORT FAULT, and the
result list is emptied (11 R174). -/
def State.openCommand (s : State) : State :=
  { s with cpr := { s.cpr with
      portFault := s.cpr.portFault || s.cpr.collecting.isSome
      collecting := none
      results := [] } }

/-- A write to the command address (11 R174); ignored while RESET is low (11 R171). -/
def State.writeCommand (s : State) (code : Byte) : State :=
  if s.pins.resetLow then s
  else
    match Command.ofCode code with
    | none => refuseUnknown code s.openCommand
    | some c =>
      if c.paramCount = 0 then perform c [] s.openCommand
      else
        let s1 := s.openCommand
        { s1 with cpr := { s1.cpr with collecting := some { command := c, params := [] } } }

/-- The collection cleared, as it is when the last byte arrives (11 R174). -/
def State.endCollection (s : State) : State :=
  { s with cpr := { s.cpr with collecting := none } }

/-- A write to the parameter address (11 R174); ignored while RESET is low (11 R171). -/
def State.writeParameter (s : State) (b : Byte) : State :=
  if s.pins.resetLow then s
  else
    match s.cpr.collecting with
    | none => s.portFault
    | some k =>
      if k.params.length + 1 = k.command.paramCount then
        perform k.command (k.params ++ [b]) s.endCollection
      else
        { s with cpr := { s.cpr with collecting := some { k with params := k.params ++ [b] } } }

/-- The parameter bytes before the last of command `c`, where `c` is being collected and waits for its last byte. -/
def State.awaitsLast (s : State) (c : Command) : Option (List Byte) :=
  match s.cpr.collecting with
  | none => none
  | some k => if k.command = c ∧ k.params.length + 1 = c.paramCount then some k.params else none

/-- A row that is the write of the last parameter byte of command `c`: `body` performs it. A byte that is not the
last byte of `c` is the parameter write that 11 R174 makes of it (log 2). -/
def State.lastByte (s : State) (c : Command) (b : Byte) (body : List Byte → State → State) : State :=
  if s.pins.resetLow then s
  else
    match s.awaitsLast c with
    | none => s.writeParameter b
    | some ps => body (ps ++ [b]) s.endCollection

/-- A row that is the write of the command byte of a command without parameters (11 R174). -/
def State.commandRow (s : State) (body : State → State) : State :=
  if s.pins.resetLow then s else body s.openCommand

/-- A read access: the byte driven on D0-D7 and the state it leaves. While RESET is low D0-D7 are not driven and
nothing else happens (11 R171). -/
def State.readAccess (s : State) (byte : Byte) (after : State) : State :=
  if s.pins.resetLow then { s with cpr := { s.cpr with readData := none } }
  else { after with cpr := { after.cpr with readData := some byte } }

/-- A read of the result address (11 R175). -/
def State.readResult (s : State) : State :=
  match s.cpr.results with
  | [] => s.readAccess 0 s.portFault
  | b :: rest => s.readAccess b { s with cpr := { s.cpr with results := rest } }

/-- A read of the status address (11 R172). -/
def State.readStatus (s : State) : State :=
  s.readAccess s.statusByte { s with cpr := { s.cpr with portFault := false } }

end Sys2Proof.Machine
end

