-- ==== Sys2Proof/Machine/PaletteOps.lean ====
section
/-! DEFINITION. The palette cycles (08 R150 to R154). -/

namespace Sys2Proof.Machine

open Sys2Proof

/-- A write to the palette address starts a cycle: six low bits the entry, the top bit the direction (08 R150). -/
def Palette.address (p : Palette) (b : Byte) : Palette :=
  { p with
    cursor := b.toNat % 64
    direction := if b.toNat < 128 then .load else .read
    component := .r
    stagedR := none
    stagedG := none
    cycleOpen := true }

/-- The cursor entry advances by one, from 63 back to 0 (08 R151, R152). -/
def Palette.advance (p : Palette) : Palette :=
  { p with cursor := (p.cursor + 1) % 64, component := .r }

/-- A component of an entry. -/
def Colour.part (c : Colour) : ColourComponent → BitVec 6
  | .r => c.r
  | .g => c.g
  | .b => c.b

/-- A data write in an open LOAD cycle (08 R151). -/
def Palette.loadByte (p : Palette) (b : Byte) : Palette :=
  let v : BitVec 6 := b.truncate 6
  match p.component with
  | .r => { p with stagedR := some v, component := .g }
  | .g => { p with stagedG := some v, component := .b }
  | .b =>
    let was := p.entries.getD p.cursor Colour.black
    let stored : Colour := { r := p.stagedR.getD was.r, g := p.stagedG.getD was.g, b := v }
    Palette.advance
      { p with entries := p.entries.set p.cursor stored, stagedR := none, stagedG := none }

/-- The cursor after a data read in an open READ cycle (08 R152). -/
def Palette.afterRead (p : Palette) : Palette :=
  match p.component with
  | .r => { p with component := .g }
  | .g => { p with component := .b }
  | .b => p.advance

/-- A data access that does not match the cycle closes it; the staged components are discarded (08 R153). -/
def Palette.mismatch (p : Palette) : Palette :=
  { p with cycleOpen := false, stagedR := none, stagedG := none }

/-- A write to the palette address; ignored while RESET is low (11 R171). -/
def State.writePaletteAddress (s : State) (b : Byte) : State :=
  if s.pins.resetLow then s else { s with op := s.op.address b }

/-- A read of the palette address: 00H with PORT FAULT (08 R150). -/
def State.readPaletteAddress (s : State) : State :=
  s.readAccess 0 s.portFault

/-- A write to the palette data address (08 R151, R153). -/
def State.writePaletteData (s : State) (b : Byte) : State :=
  if s.pins.resetLow then s
  else if s.op.cycleOpen ∧ s.op.direction = .load then { s with op := s.op.loadByte b }
  else ({ s with op := s.op.mismatch } : State).portFault

/-- A read of the palette data address (08 R152, R153). -/
def State.readPaletteData (s : State) : State :=
  if s.op.cycleOpen ∧ s.op.direction = .read then
    s.readAccess (((s.op.entry s.op.cursor).part s.op.component).zeroExtend 8) { s with op := s.op.afterRead }
  else s.readAccess 0 ({ s with op := s.op.mismatch } : State).portFault

end Sys2Proof.Machine
end

