-- ==== Sys2Proof/Machine/PortSteps.lean ====
section
/-! DEFINITION. The meanings of the reports (11, 02 R42) and of the plain port and palette accesses (11, 08). -/

namespace Sys2Proof.Machine

open Sys2Proof

/-- REPORT_CONDITION (11 R178). -/
def execReportCondition (length : Byte) (s : State) : Host.Outcome State Fault Refusal :=
  .next (s.lastByte .reportCondition length fun ps s => s.reportCondition (byteAt ps 1))

/-- REPORT_LOCK (02 R42). The attention answer comes first (11 R181). -/
def execReportLock (s : State) : Host.Outcome State Fault Refusal :=
  .next (s.commandRow fun s =>
    if s.cpr.attention.any then s.answerAttention Command.reportLock.code else s.reportLock)

/-- READ_EVENTS (11 R183). -/
def execReadEvents (s : State) : Host.Outcome State Fault Refusal :=
  .next (s.commandRow (performWith Command.readEvents.code doReadEvents))

/-- READ_NOTICES (11 R184). -/
def execReadNotices (s : State) : Host.Outcome State Fault Refusal :=
  .next (s.commandRow (performWith Command.readNotices.code doReadNotices))

/-- UNKNOWN_COMMAND (11 R176): the write of a command byte that names no command. -/
def execUnknownCommand (code : Byte) (s : State) : Host.Outcome State Fault Refusal :=
  .next (s.writeCommand code)

/-- STRAY_PARAMETER_BYTE (11 R174): ignored, with PORT FAULT, while no command is being collected. -/
def execStrayParameterByte (value : Byte) (s : State) : Host.Outcome State Fault Refusal :=
  .next (s.writeParameter value)

/-- RESULT_READ (11 R175). -/
def execResultRead (s : State) : Host.Outcome State Fault Refusal :=
  .next s.readResult

/-- STATUS_READ (11 R172). -/
def execStatusRead (s : State) : Host.Outcome State Fault Refusal :=
  .next s.readStatus

/-- PALETTE_ADDRESS_WRITE (08 R150). -/
def execPaletteAddressWrite (value : Byte) (s : State) : Host.Outcome State Fault Refusal :=
  .next (s.writePaletteAddress value)

/-- PALETTE_ADDRESS_READ (08 R150). -/
def execPaletteAddressRead (s : State) : Host.Outcome State Fault Refusal :=
  .next s.readPaletteAddress

/-- PALETTE_DATA_WRITE (08 R151, R153). -/
def execPaletteDataWrite (value : Byte) (s : State) : Host.Outcome State Fault Refusal :=
  .next (s.writePaletteData value)

/-- PALETTE_DATA_READ (08 R152, R153). -/
def execPaletteDataRead (s : State) : Host.Outcome State Fault Refusal :=
  .next s.readPaletteData

/-- COMMAND_BYTE_WRITE (11 R174). -/
def execCommandByteWrite (code : Byte) (s : State) : Host.Outcome State Fault Refusal :=
  .next (s.writeCommand code)

/-- PARAMETER_BYTE_WRITE (11 R174). -/
def execParameterByteWrite (value : Byte) (s : State) : Host.Outcome State Fault Refusal :=
  .next (s.writeParameter value)

end Sys2Proof.Machine
end

