-- ==== Sys2Proof/Machine/SequenceCommands.lean ====
section
/-! DEFINITION. The meanings of the sequencing commands (05). -/

namespace Sys2Proof.Machine

open Sys2Proof

/-- ARM (05 R81). -/
def execArm (handle : Byte) (s : State) : Host.Outcome State Fault Refusal :=
  .next (s.lastByte .arm handle fun ps s =>
    performWith Command.arm.code (fun s => s.sequence (byteAt ps 1) armTitle) s)

/-- DISARM (05 R81). -/
def execDisarm (handle : Byte) (s : State) : Host.Outcome State Fault Refusal :=
  .next (s.lastByte .disarm handle fun ps s =>
    performWith Command.disarm.code (fun s => s.sequence (byteAt ps 1) disarmTitle) s)

/-- START (05 R82). -/
def execStart (handle : Byte) (s : State) : Host.Outcome State Fault Refusal :=
  .next (s.lastByte .start handle fun ps s =>
    performWith Command.start.code (fun s => s.sequence (byteAt ps 1) startTitle) s)

/-- LEAVE (05 R93). -/
def execLeave (handle : Byte) (s : State) : Host.Outcome State Fault Refusal :=
  .next (s.lastByte .leave handle fun ps s =>
    performWith Command.leave.code (fun s => s.sequence (byteAt ps 1) leaveTitle) s)

/-- HALT_IMMEDIATE (05 R94). -/
def execHaltImmediate (s : State) : Host.Outcome State Fault Refusal :=
  .next (s.lastByte .halt 0 fun ps s =>
    performWith Command.halt.code (fun s => s.sequence (byteAt ps 1) haltTitle) s)

/-- HALT_DECELERATED (05 R95). -/
def execHaltDecelerated (s : State) : Host.Outcome State Fault Refusal :=
  .next (s.lastByte .halt 1 fun ps s =>
    performWith Command.halt.code (fun s => s.sequence (byteAt ps 1) slowHaltTitle) s)

/-- RESUME (05 R96). -/
def execResume (handle : Byte) (s : State) : Host.Outcome State Fault Refusal :=
  .next (s.lastByte .resume handle fun ps s =>
    performWith Command.resume.code (fun s => s.sequence (byteAt ps 1) resumeTitle) s)

/-- REARM (05 R97). -/
def execRearm (handle : Byte) (s : State) : Host.Outcome State Fault Refusal :=
  .next (s.lastByte .rearm handle fun ps s =>
    performWith Command.rearm.code (fun s => s.sequence (byteAt ps 1) rearmTitle) s)

/-- CUT_ALL (05 R98). -/
def execCutAll (s : State) : Host.Outcome State Fault Refusal :=
  .next (s.commandRow (performWith Command.cutAll.code doCutAll))

end Sys2Proof.Machine
end

