-- ==== Sys2Proof/Machine/SettingCommands.lean ====
section
/-! DEFINITION. The meanings of the queue commands (07), the settings and standby commands (10) and the cue line
commands (09). -/

namespace Sys2Proof.Machine

open Sys2Proof

/-- SET_TIMING (07 R125). -/
def execSetTiming (valueHigh : Byte) (s : State) : Host.Outcome State Fault Refusal :=
  .next (s.lastByte .setTiming valueHigh fun ps s => performWith Command.setTiming.code (doSetTiming ps) s)

/-- HOLD_AMENDMENTS (07 R131). -/
def execHoldAmendments (s : State) : Host.Outcome State Fault Refusal :=
  .next (s.commandRow (performWith Command.holdAmendments.code (fun s => s.setHeld true)))

/-- APPLY_AMENDMENTS (07 R131). -/
def execApplyAmendments (s : State) : Host.Outcome State Fault Refusal :=
  .next (s.commandRow (performWith Command.applyAmendments.code (fun s => s.setHeld false)))

/-- QUERY_PENDING (07 R132). -/
def execQueryPending (s : State) : Host.Outcome State Fault Refusal :=
  .next (s.commandRow (performWith Command.queryPending.code doQueryPending))

/-- DISCARD_PENDING (07 R133). -/
def execDiscardPending (handle : Byte) (s : State) : Host.Outcome State Fault Refusal :=
  .next (s.lastByte .discardPending handle fun ps s => performWith Command.discardPending.code (doDiscardPending ps) s)

/-- SET_MODE (10 R166, R167). -/
def execSetMode (valueHigh : Byte) (s : State) : Host.Outcome State Fault Refusal :=
  .next (s.lastByte .setMode valueHigh fun ps s => performWith Command.setMode.code (doSetMode ps) s)

/-- REPORT_MODE (10 R168). -/
def execReportMode (item : Byte) (s : State) : Host.Outcome State Fault Refusal :=
  .next (s.lastByte .reportMode item fun ps s => performWith Command.reportMode.code (doReportMode ps) s)

/-- SET_EVENTS (10 R169). -/
def execSetEvents (setHigh : Byte) (s : State) : Host.Outcome State Fault Refusal :=
  .next (s.lastByte .setEvents setHigh fun ps s => performWith Command.setEvents.code (doSetEvents ps) s)

/-- ENTER_STANDBY (10 R163, 02 R31). -/
def execEnterStandby (s : State) : Host.Outcome State Fault Refusal :=
  .next (s.commandRow (performWith Command.enterStandby.code doEnterStandby))

/-- LEAVE_STANDBY (10 R164, 02 R32). -/
def execLeaveStandby (s : State) : Host.Outcome State Fault Refusal :=
  .next (s.commandRow (performWith Command.leaveStandby.code doLeaveStandby))

/-- SET_CUE_LINE (09 R159, R160). -/
def execSetCueLine (handle : Byte) (s : State) : Host.Outcome State Fault Refusal :=
  .next (s.lastByte .setCueLine handle fun ps s => performWith Command.setCueLine.code (doSetCueLine ps) s)

/-- REPORT_CUE_LINES (09 R161). -/
def execReportCueLines (s : State) : Host.Outcome State Fault Refusal :=
  .next (s.commandRow (performWith Command.reportCueLines.code doReportCueLines))

end Sys2Proof.Machine
end

