-- ==== Sys2Proof/Machine/TitleCommands.lean ====
section
/-! DEFINITION. The meanings of the Title Table's commands (04) and of AMEND_TITLE (07). -/

namespace Sys2Proof.Machine

open Sys2Proof

/-- CREATE_TITLE (04 R63, R65, R66). -/
def execCreateTitle (autoRetire : Byte) (s : State) : Host.Outcome State Fault Refusal :=
  .next (s.lastByte .createTitle autoRetire fun ps s => performWith Command.createTitle.code (doCreateTitle ps) s)

/-- AMEND_TITLE (07 R122 to R126). -/
def execAmendTitle (valueHigh : Byte) (s : State) : Host.Outcome State Fault Refusal :=
  .next (s.lastByte .amendTitle valueHigh fun ps s => performWith Command.amendTitle.code (doAmendTitle ps) s)

/-- QUERY_TITLE (04 R67). -/
def execQueryTitle (handle : Byte) (s : State) : Host.Outcome State Fault Refusal :=
  .next (s.lastByte .queryTitle handle fun ps s => performWith Command.queryTitle.code (doQueryTitle ps) s)

/-- LIST_TITLES (04 R68). -/
def execListTitles (setHigh : Byte) (s : State) : Host.Outcome State Fault Refusal :=
  .next (s.lastByte .listTitles setHigh fun ps s => performWith Command.listTitles.code (doListTitles ps) s)

/-- HIT_TEST (04 R69, R70). -/
def execHitTest (xHigh : Byte) (s : State) : Host.Outcome State Fault Refusal :=
  .next (s.lastByte .hitTest xHigh fun ps s => performWith Command.hitTest.code (doHitTest ps) s)

/-- RETIRE_TITLE_IMMEDIATE (04 R71 to R73). -/
def execRetireTitleImmediate (s : State) : Host.Outcome State Fault Refusal :=
  .next (s.lastByte .retireTitle 0 fun ps s =>
    performWith Command.retireTitle.code (fun s => s.retireNow (byteAt ps 1)) s)

/-- RETIRE_TITLE_GRACEFUL (04 R74). -/
def execRetireTitleGraceful (s : State) : Host.Outcome State Fault Refusal :=
  .next (s.lastByte .retireTitle 1 fun ps s =>
    performWith Command.retireTitle.code (fun s => s.retireGracefully (byteAt ps 1)) s)

/-- RESET_TITLES (04 R75). -/
def execResetTitles (s : State) : Host.Outcome State Fault Refusal :=
  .next (s.commandRow (performWith Command.resetTitles.code doResetTitles))

end Sys2Proof.Machine
end

