-- ==== Sys2Proof/Machine/Dispatch.lean ====
section
/-! DEFINITION. One arm per command: what it does to everything but the queue of commands. -/

namespace Sys2Proof.Machine

open Sys2Proof

def exec (i : Instr) (s : State) : Host.Outcome State Fault Refusal :=
  match i with
  | .powerOn csync => Sys2Proof.Machine.execPowerOn csync s
  | .pinResetStart => Sys2Proof.Machine.execPinResetStart s
  | .pinReset => Sys2Proof.Machine.execPinReset s
  | .csyncFallingEdge => Sys2Proof.Machine.execCsyncFallingEdge s
  | .csyncRisingEdge => Sys2Proof.Machine.execCsyncRisingEdge s
  | .qualificationExpiry => Sys2Proof.Machine.execQualificationExpiry s
  | .overlongExpiry => Sys2Proof.Machine.execOverlongExpiry s
  | .runExpiry => Sys2Proof.Machine.execRunExpiry s
  | .gateOpen => Sys2Proof.Machine.execGateOpen s
  | .gateDecisionExpiry => Sys2Proof.Machine.execGateDecisionExpiry s
  | .freeLineDecision => Sys2Proof.Machine.execFreeLineDecision s
  | .lineStart cues cueFirst => Sys2Proof.Machine.execLineStart cues cueFirst s
  | .pixelSample cpix => Sys2Proof.Machine.execPixelSample cpix s
  | .chs => Sys2Proof.Machine.execChs s
  | .chsPulseEnd => Sys2Proof.Machine.execChsPulseEnd s
  | .createTitle autoRetire => Sys2Proof.Machine.execCreateTitle autoRetire s
  | .amendTitle valueHigh => Sys2Proof.Machine.execAmendTitle valueHigh s
  | .queryTitle handle => Sys2Proof.Machine.execQueryTitle handle s
  | .listTitles setHigh => Sys2Proof.Machine.execListTitles setHigh s
  | .hitTest xHigh => Sys2Proof.Machine.execHitTest xHigh s
  | .retireTitleImmediate => Sys2Proof.Machine.execRetireTitleImmediate s
  | .retireTitleGraceful => Sys2Proof.Machine.execRetireTitleGraceful s
  | .resetTitles => Sys2Proof.Machine.execResetTitles s
  | .arm handle => Sys2Proof.Machine.execArm handle s
  | .disarm handle => Sys2Proof.Machine.execDisarm handle s
  | .start handle => Sys2Proof.Machine.execStart handle s
  | .leave handle => Sys2Proof.Machine.execLeave handle s
  | .haltImmediate => Sys2Proof.Machine.execHaltImmediate s
  | .haltDecelerated => Sys2Proof.Machine.execHaltDecelerated s
  | .resume handle => Sys2Proof.Machine.execResume handle s
  | .rearm handle => Sys2Proof.Machine.execRearm handle s
  | .cutAll => Sys2Proof.Machine.execCutAll s
  | .setTiming valueHigh => Sys2Proof.Machine.execSetTiming valueHigh s
  | .holdAmendments => Sys2Proof.Machine.execHoldAmendments s
  | .applyAmendments => Sys2Proof.Machine.execApplyAmendments s
  | .queryPending => Sys2Proof.Machine.execQueryPending s
  | .discardPending handle => Sys2Proof.Machine.execDiscardPending handle s
  | .setMode valueHigh => Sys2Proof.Machine.execSetMode valueHigh s
  | .reportMode item => Sys2Proof.Machine.execReportMode item s
  | .setEvents setHigh => Sys2Proof.Machine.execSetEvents setHigh s
  | .enterStandby => Sys2Proof.Machine.execEnterStandby s
  | .leaveStandby => Sys2Proof.Machine.execLeaveStandby s
  | .setCueLine handle => Sys2Proof.Machine.execSetCueLine handle s
  | .reportCueLines => Sys2Proof.Machine.execReportCueLines s
  | .reportCondition length => Sys2Proof.Machine.execReportCondition length s
  | .reportLock => Sys2Proof.Machine.execReportLock s
  | .readEvents => Sys2Proof.Machine.execReadEvents s
  | .readNotices => Sys2Proof.Machine.execReadNotices s
  | .unknownCommand code => Sys2Proof.Machine.execUnknownCommand code s
  | .strayParameterByte value => Sys2Proof.Machine.execStrayParameterByte value s
  | .resultRead => Sys2Proof.Machine.execResultRead s
  | .statusRead => Sys2Proof.Machine.execStatusRead s
  | .paletteAddressWrite value => Sys2Proof.Machine.execPaletteAddressWrite value s
  | .paletteAddressRead => Sys2Proof.Machine.execPaletteAddressRead s
  | .paletteDataWrite value => Sys2Proof.Machine.execPaletteDataWrite value s
  | .paletteDataRead => Sys2Proof.Machine.execPaletteDataRead s
  | .commandByteWrite code => Sys2Proof.Machine.execCommandByteWrite code s
  | .parameterByteWrite value => Sys2Proof.Machine.execParameterByteWrite value s

end Sys2Proof.Machine
end

