-- ==== Sys2Proof/Machine/Step.lean ====
section
/-! DEFINITION. One step: the command at the front of the queue, or on an empty queue the part's own clock (log 1). -/

namespace Sys2Proof.Machine

open Sys2Proof

/-- The queue of commands with one taken off its front. -/
def State.withQueue (s : State) (q : List Instr) : State :=
  { s with pending := q }

/-- One step. The command at the front is executed with the rest of the queue left. On an empty queue the part goes
on by itself: a clock event that is due is taken, and if none is due one cc passes (log 1). -/
def step (s : State) : Host.Outcome State Fault Refusal :=
  match s.pending with
  | c :: rest => exec c (s.withQueue rest)
  | [] =>
    match s.dueEvent with
    | some c => exec c s.useFreeValue
    | none => .next s.tick

/-- The command a table word spells, put at the front of the queue. No row of the table has bits, so the state stays
as it is (log 18). -/
def State.withFetchWord (s : State) (nbits w : Nat) : State :=
  match decodeTableWord nbits w with
  | some c => s.withQueue (c :: s.pending)
  | none => s

end Sys2Proof.Machine
end

