-- ==== Sys2Proof/Safety.lean ====
section
/-! DEFINITION. The terms in which statements speak of a run: when the part performs a host command, what its port
holds after one, which rows are host accesses, what a line start carries, what a creation block gives, and the invariants
that every step keeps. -/

namespace Sys2Proof

/-! ### Host accesses -/

/-- The row that is the write of the last parameter byte of a command, with that byte: `none` for every other row.
RETIRE TITLE and HALT have a row for each of their two modes. -/
def Instr.lastByteOf : Instr → Option (Command × Byte)
  | .createTitle b => some (.createTitle, b)
  | .amendTitle b => some (.amendTitle, b)
  | .queryTitle b => some (.queryTitle, b)
  | .listTitles b => some (.listTitles, b)
  | .hitTest b => some (.hitTest, b)
  | .retireTitleImmediate => some (.retireTitle, 0)
  | .retireTitleGraceful => some (.retireTitle, 1)
  | .arm b => some (.arm, b)
  | .disarm b => some (.disarm, b)
  | .start b => some (.start, b)
  | .leave b => some (.leave, b)
  | .haltImmediate => some (.halt, 0)
  | .haltDecelerated => some (.halt, 1)
  | .resume b => some (.resume, b)
  | .rearm b => some (.rearm, b)
  | .setTiming b => some (.setTiming, b)
  | .discardPending b => some (.discardPending, b)
  | .setMode b => some (.setMode, b)
  | .reportMode b => some (.reportMode, b)
  | .setEvents b => some (.setEvents, b)
  | .setCueLine b => some (.setCueLine, b)
  | .reportCondition b => some (.reportCondition, b)
  | _ => none

/-- The row that is the write of the command byte of a command without parameters, with that command. -/
def Instr.wholeCommand : Instr → Option Command
  | .resetTitles => some .resetTitles
  | .cutAll => some .cutAll
  | .holdAmendments => some .holdAmendments
  | .applyAmendments => some .applyAmendments
  | .queryPending => some .queryPending
  | .enterStandby => some .enterStandby
  | .leaveStandby => some .leaveStandby
  | .reportCueLines => some .reportCueLines
  | .reportLock => some .reportLock
  | .readEvents => some .readEvents
  | .readNotices => some .readNotices
  | _ => none

/-- The rows that are writes of the host (11 R171). -/
def Instr.isHostWrite : Instr → Bool
  | .unknownCommand _ => true
  | .strayParameterByte _ => true
  | .paletteAddressWrite _ => true
  | .paletteDataWrite _ => true
  | .commandByteWrite _ => true
  | .parameterByteWrite _ => true
  | i => i.lastByteOf.isSome || i.wholeCommand.isSome

/-- The rows that are reads of the host (11 R171). -/
def Instr.isHostRead : Instr → Bool
  | .resultRead => true
  | .statusRead => true
  | .paletteAddressRead => true
  | .paletteDataRead => true
  | _ => false

end Sys2Proof

namespace Sys2Proof.Machine

open Sys2Proof

/-! ### Host commands -/

/-- The part performs host commands: RESET is high and no attention reason is pending (11 R171, R176, R181). -/
def State.Performs (s : State) : Prop :=
  s.pins.resetLow = false ∧ s.cpr.attention.any = false

/-- Command `c` is being collected and has the parameter bytes `ps` so far (11 R174). -/
def State.Collects (s : State) (c : Command) (ps : List Byte) : Prop :=
  s.cpr.collecting = some { command := c, params := ps }

/-- The part performs command `c` at the next parameter byte: `ps` are all its bytes but the last (11 R174). -/
def State.Awaits (s : State) (c : Command) (ps : List Byte) : Prop :=
  s.Performs ∧ s.Collects c ps ∧ ps.length + 1 = c.paramCount

/-- The port after a performed command with answer `r`, over the state the command's own effects leave: collecting
is absent, the result list holds the completion code and the data bytes (11 R175), the condition record is replaced
(11 R177), and report run is NO (02 R42). -/
def State.answered (s : State) (code : Byte) (r : Reply) : State :=
  { s with
    cpr := { s.cpr with
      collecting := none
      results := r.completion.code :: r.data
      condition :=
        { completion := r.completion
          key := r.key
          code := r.code
          handle := r.handle
          param := r.param
          reasons := Attention.empty
          lastCommand := code
          fieldCounter := s.lle.fieldCounter
          occupancy := s.aq.entries.length } }
    lle := { s.lle with reportRun := false } }

/-- The state in which a command byte finds a command in collection abandoned: PORT FAULT is set then, and stays as it
was otherwise (11 R174). -/
def State.abandoning (s : State) : State :=
  { s with cpr := { s.cpr with portFault := s.cpr.portFault || s.cpr.collecting.isSome } }

/-- The record of handle `h` replaced by `t`. -/
def State.withTitle (s : State) (h : Byte) (t : Title) : State :=
  { s with titles := s.titles.set (h.toNat - 1) (some t) }

/-- The phases in which a sequencing command is accepted (05 R80 and the rules it names). -/
def Phase.accepts (p : Phase) (c : Command) : Prop :=
  match c with
  | .arm => p = .dormant
  | .disarm => p = .armed
  | .start => p = .dormant ∨ p = .armed
  | .leave =>
    p = .dormant ∨ p = .armed ∨ p = .showing .entering ∨ p = .showing .dwell ∨ p = .held .entering ∨ p = .held .dwell
  | .halt => ∃ from_, p = .showing from_
  | .resume => ∃ from_, p = .held from_
  | .rearm => ∃ o, p = .done o
  | _ => False

/-- The part of freeing a record that the title table, the queue and the cue lines see (04 R71). -/
def State.freed (s : State) (h : Byte) : State :=
  { s with
    titles := s.titles.set (h.toNat - 1) none
    aq := { s.aq with entries := s.aq.entries.filter fun e => decide (e.handle ≠ h.toNat) }
    clu := s.clu.map (CueLine.release h.toNat) }

/-- The answer a command gets while attention reasons are pending (11 R181). -/
def State.attentionAnswered (s : State) (code : Byte) : State :=
  { s with cpr := { s.cpr with
      collecting := none
      results := [0x04]
      condition :=
        { completion := .attention
          key := .attention
          code := 0
          handle := 0
          param := 0
          reasons := s.cpr.attention
          lastCommand := code
          fieldCounter := s.lle.fieldCounter
          occupancy := s.aq.entries.length }
      attention := Attention.empty } }

/-! ### Line starts -/

/-- A line start that carries a field start event: a real one, one made by the vertical flywheel or a free one
(02 R35, R36, R38). A re-alignment is none (02 R37). -/
def State.startsField (s : State) : Bool :=
  if s.settings.reference = .lock ∧ s.lle.lock ≠ .standby then
    match s.sq.recognition with
    | some _ => decide (s.lle.realign = 0)
    | none => decide (s.lle.y + 1 = s.lle.fieldLines + 4)
  else decide (s.lle.fieldLines + 2 ≤ s.lle.y + 1)

/-- A line start that carries a field step: outside STANDBY, a field start made by the vertical flywheel, and the line
that takes y = 3 in a field that has had none (02 R36, R40). -/
def State.stepsField (s : State) : Bool :=
  if s.lle.lock = .standby then false
  else if s.settings.reference = .lock then
    decide (s.sq.recognition = none ∧
      (s.lle.y + 1 = s.lle.fieldLines + 4 ∨ (s.lle.y + 1 = 3 ∧ s.lle.stepTaken = false)))
  else decide (s.lle.y + 1 < s.lle.fieldLines + 2 ∧ s.lle.y + 1 = 3 ∧ s.lle.stepTaken = false)

/-- The queue commits at each field start event and at no other line start (07 R127). -/
def State.committedAt (s : State) : State :=
  if s.startsField then s.commit else s

/-- The field counter that the work of a line start reads: it advances at a field start event (02 R41, 05 R85). -/
def State.counterAt (s : State) : BitVec 16 :=
  if s.startsField then s.lle.fieldCounter + 1 else s.lle.fieldCounter

/-- The cue edges of a line start that are handed to the TS: those of INPUT lines, outside STANDBY (09 R157). -/
def State.cueEdge (s : State) (cues : CueLevels) (n : Fin 4) : Bool :=
  decide (s.lle.lock ≠ .standby) && (s.clu.get n).hasEdge (cueLevel cues n)

/-- The marks that cue edges leave on a record (05 R99). -/
def Title.markedBy (edge : Fin 4 → Bool) (r : Title) : Title :=
  { r with marks := { r.marks with
      go := r.marks.go || decide (r.phase = .armed ∧ ∃ n, r.start = .cue n ∧ edge n = true)
      endMark := r.marks.endMark || decide (r.phase = .showing .dwell ∧ ∃ n, r.ending = .cue n ∧ edge n = true) } }

/-- What a line start leaves of a record that the commit has left, with the notices raised: the work of a field step, before
or after the marks of the cue edges, and otherwise the marks alone (05 R83, R99, 09 R157). `none`: the record reached
DONE with auto-retire YES, and is freed (05 R92). -/
def State.lineWork (s : State) (cues : CueLevels) (cueFirst : Bool) (r : Title) : Option Title × List Notice :=
  let edge := s.cueEdge cues
  if s.stepsField then
    let w := titleStep s.counterAt (if cueFirst then r.markedBy edge else r)
    if .done ∈ w.2 ∧ w.1.autoRetire = true then (none, w.2)
    else (some (if cueFirst then w.1 else w.1.markedBy edge), w.2)
  else (some (r.markedBy edge), [])

/-- The working standard after a field length has been handed: under AUTO four classes alike decide it, and it stays
otherwise (01 R15); a change raises STANDARD CHANGED and gives the attention reason (01 R17, 11 R179). -/
structure State.StandardFollows (s t : State) : Prop where
  of625 : s.settings.standard = .auto → t.sq.classes = List.replicate 4 .c625 → t.sq.standard = .s625
  of525 : s.settings.standard = .auto → t.sq.classes = List.replicate 4 .c525 → t.sq.standard = .s525
  kept : s.settings.standard ≠ .auto ∨
    (t.sq.classes ≠ List.replicate 4 .c625 ∧ t.sq.classes ≠ List.replicate 4 .c525) → t.sq.standard = s.sq.standard
  reason : t.cpr.attention =
    { s.cpr.attention with
      standardChanged := s.cpr.attention.standardChanged || decide (t.sq.standard ≠ s.sq.standard) }
  event : t.cpr.events.has .standardChanged =
    (s.cpr.events.has .standardChanged || (s.cpr.enables.has .standardChanged && decide (t.sq.standard ≠ s.sq.standard)))

/-! ### Creation blocks -/

/-- The choice field that begins at parameter byte `k` is present for the block's kind and out of its choices
(04 R61, R63, "Choice codes"). -/
def OutOfChoices (ps : List Byte) (k : Nat) : Prop :=
  let v := byteAt ps k
  let kind := byteAt ps 16
  (k = 2 ∧ 2 < v) ∨ (k = 13 ∧ 1 < v) ∨ (k = 16 ∧ 4 < v) ∨ (k = 17 ∧ (kind = 2 ∨ kind = 3) ∧ 1 < v) ∨
  (k = 17 ∧ kind = 4 ∧ v ≠ 2 ∧ v ≠ 3) ∨ (k = 33 ∧ 5 < v) ∨ (k = 38 ∧ 5 < v) ∨ (k = 39 ∧ 2 < v) ∨ (k = 41 ∧ 1 < v)

/-- A number brought within a range, ends included (04 R58). -/
def within (lo hi v : Nat) : Nat :=
  if v < lo then lo else if hi < v then hi else v

/-- The placement that a block's numbers give (04 R58). -/
structure PlacedBy (pixTotal : Nat) (ps : List Byte) (p : Placement) : Prop where
  prio : p.prio = within 0 7 (byteAt ps 1)
  mask : p.mask = if byteAt ps 2 = 1 then .a else if byteAt ps 2 = 2 then .b else .both
  top : p.top = within 16 312 (wordAt ps 3)
  height : p.height = min (within 1 297 (wordAt ps 5)) (313 - p.top)
  left : p.left = min (within 0 1023 (wordAt ps 7)) (pixTotal - 1)
  width : p.width = min (within 1 1024 (wordAt ps 9)) (pixTotal - p.left)

/-- The numeric field that begins at parameter byte `k` is present for the block's kind and changed by a clamp
(04 R58, R60, R61, R62, R65). -/
def ClampedField (pixTotal : Nat) (ps : List Byte) (k : Nat) : Prop :=
  let kind := byteAt ps 16
  (∃ p, PlacedBy pixTotal ps p ∧
    ((k = 1 ∧ p.prio ≠ byteAt ps 1) ∨ (k = 3 ∧ p.top ≠ wordAt ps 3) ∨ (k = 5 ∧ p.height ≠ wordAt ps 5) ∨
      (k = 7 ∧ p.left ≠ wordAt ps 7) ∨ (k = 9 ∧ p.width ≠ wordAt ps 9))) ∨
  ((k = 11 ∨ k = 12) ∧ 15 < byteAt ps k) ∨ (k = 14 ∧ 3 < byteAt ps k) ∨ (k = 15 ∧ 63 < byteAt ps k) ∨
  (1 ≤ kind ∧ (k = 20 ∨ k = 22 ∨ k = 24 ∨ k = 26) ∧ (wordAt ps k = 0 ∨ 4095 < wordAt ps k)) ∨
  ((kind = 3 ∨ kind = 4) ∧ k = 31 ∧ 1023 < wordAt ps k) ∨ (k = 40 ∧ (byteAt ps k = 0 ∨ 63 < byteAt ps k))

/-- The record that a block of good choices fills, before its displayed geometry (04 R60 to R62, R66, 05 R79). -/
structure FilledBy (pixTotal : Nat) (ps : List Byte) (t : Title) : Prop where
  place : PlacedBy pixTotal ps t.place
  key : t.key =
    { colour := BitVec.ofNat 4 (within 0 15 (byteAt ps 11)), mask := BitVec.ofNat 4 (within 0 15 (byteAt ps 12))
      sense := if byteAt ps 13 = 1 then .inverse else .normal
      bank := within 0 3 (byteAt ps 14), level := within 0 63 (byteAt ps 15) }
  motion : ∀ r : Ramp,
    r = { course := wordAt ps 18, startRate := within 1 4095 (wordAt ps 20), runRate := within 1 4095 (wordAt ps 22)
          accel := within 1 4095 (wordAt ps 24), decel := within 1 4095 (wordAt ps 26), rampDown := wordAt ps 28
          creep := byteAt ps 30 } →
    let side : SideApproach := if byteAt ps 17 = 1 then .fromRight else .fromLeft
    let vert : VertApproach := if byteAt ps 17 = 2 then .fromAbove else .fromBelow
    let reach := within 0 1023 (wordAt ps 31)
    (byteAt ps 16 = 0 → t.motion = .none) ∧ (byteAt ps 16 = 1 → t.motion = .fade r) ∧
    (byteAt ps 16 = 2 → t.motion = .wipe side r) ∧ (byteAt ps 16 = 3 → t.motion = .slide side r reach) ∧
    (byteAt ps 16 = 4 → t.motion = .rise vert r reach)
  start : (byteAt ps 33 = 0 → t.start = .command) ∧ (byteAt ps 33 = 5 → t.start = .field (wordAt ps 34)) ∧
    ∀ n : Fin 4, byteAt ps 33 = n.val + 1 → t.start = .cue n
  dwell : t.dwell = wordAt ps 36
  ending : (byteAt ps 38 = 0 → t.ending = .dwell) ∧ (byteAt ps 38 = 5 → t.ending = .command) ∧
    ∀ n : Fin 4, byteAt ps 38 = n.val + 1 → t.ending = .cue n
  exit : t.exit = if byteAt ps 39 = 1 then .fade else if byteAt ps 39 = 2 then .reverse else .cut
  exitStep : t.exitStep = within 1 63 (byteAt ps 40)
  autoRetire : t.autoRetire = decide (byteAt ps 41 = 1)
  runtime : t.phase = .dormant ∧ t.marks = Marks.empty ∧ t.travel = 0 ∧ t.velocity = 0 ∧ t.creepLeft = 0 ∧
    t.turnPause = 0 ∧ t.dwellLeft = 0 ∧ t.leavePlanned = false ∧ t.haltPending = false ∧ t.byCommand = false

/-! ### Invariants -/

/-- An event kind is pending only while its enable is set (11 R182), and TITLE ACTIVITY only while the notice store
holds a notice (11 R184); the table and the store have one place for each handle (04 R57). -/
structure State.EventsAdmitted (s : State) : Prop where
  titles : s.titles.length = 24
  notices : s.cpr.notices.length = 24
  enabled : ∀ k : EventKind, s.cpr.events.has k = true → s.cpr.enables.has k = true
  backed : s.noNotices = true → s.cpr.events.has .titleActivity = false

/-- At most 32 entries, no two of which share handle and item (07 R121). -/
structure State.QueueWithinLimits (s : State) : Prop where
  occupancy : s.aq.entries.length ≤ 32
  distinct : s.aq.entries.Pairwise fun a b => ¬(a.handle = b.handle ∧ a.item = b.item)

/-- The travel of every title lies between 0 and its course, and is 0 for a title of kind NONE (06 R107, 04, Runtime). -/
def State.TravelWithinCourse (s : State) : Prop :=
  ∀ t : Title, some t ∈ s.titles → t.travel ≤ t.motion.course

/-- P stays in its range, and HSPAN in its own (02 R20, 10, table of settings). -/
structure State.PeriodWithinRange (s : State) : Prop where
  period : 393216 ≤ s.lle.period ∧ s.lle.period ≤ 655359
  hspan : 1536 ≤ s.settings.hspan ∧ s.settings.hspan ≤ 2559

/-- The waiting list and the keying list hold at most 8 spans each (08 R138). -/
structure State.SpansWithinLimits (s : State) : Prop where
  waiting : ∀ spans, s.sbk.waiting = some spans → spans.length ≤ 8
  keying : s.sbk.keying.length ≤ 8

end Sys2Proof.Machine
end

