-- ==== Sys2Proof/Certificates/Slice0/Obligations.lean ====
section
/-! DEFINITION. The statements for the provers. A statement written as `exec c s = .next t` says all that the command
does: every item of State that `t` does not name is as it was. -/

open Sys2Proof Sys2Proof.Machine

/-! ### The queue of commands, the clock, power and reset -/

/-- A step runs the command at the front of the queue, with the rest of the queue left. -/
def Obligations.StepRunsFrontCommand : Prop :=
  ∀ (c : Instr) (rest : List Instr) (s : State), s.pending = c :: rest →
    step s = exec c { s with pending := rest }

/-- The model's choice (log 1): on an empty queue a step takes the clock event that is due, and uses up one free value;
where none is due one cc passes. None is due only where no clock event is, so a due one is never passed over. The part
always goes on: a clock event that it takes by itself never stops. No command changes the queue of the commands that
wait. -/
def Obligations.IdleStepRunsTheClockAndGoesOn : Prop :=
  (∀ s : State, s.pending = [] →
    (∀ c, s.dueEvent = some c → step s = exec c { s with freeIndex := s.freeIndex + 1 }) ∧
    (s.dueEvent = none → step s = .next s.tick) ∧
    ∃ t, step s = .next t ∧ t.pending = []) ∧
  (∀ s : State,
    s.dueEvent = none ↔
      s.qualificationDue = false ∧ s.overlongDue = false ∧ s.runExpiryDue = false ∧ s.gateOpenDue = false ∧
      s.gateDecisionDue = false ∧ s.freeLineDue = false ∧ s.lineStartDue = false ∧ s.chsDue = false ∧
      s.chsPulseEndDue = false ∧ s.pixelSampleDue = false) ∧
  ∀ (c : Instr) (s t : State), exec c s = .next t → t.pending = s.pending

/-- One cc: the counter advances (01 R1) and wraps; with RESET high the accumulator advances by I and its carry is a
PXCK rising edge (03 R45), and a sample keyed at the cc before is driven (08 R144, R147); with RESET low the
accumulator stands (03 R56; logs 6 and 8). -/
def Obligations.ClockTickAdvancesCounterAndAccumulator : Prop :=
  ∀ s : State,
    (s.pins.resetLow = true → s.tick = { s with sq := { s.sq with counter := s.sq.counter + 1 } }) ∧
    (s.pins.resetLow = false →
      let carry := decide (2 ^ 32 ≤ s.stg.accumulator.toNat + s.stg.increment.toNat)
      let ran : State :=
        { s with
          sq := { s.sq with counter := s.sq.counter + 1 }
          stg := { s.stg with
            accumulator := s.stg.accumulator + s.stg.increment
            edgeLast := s.stg.edgeNow
            edgeNow := carry
            sampleDue := carry } }
      (s.sbk.handed = none → s.tick = ran) ∧
      (s.sbk.handed = some .clear →
        s.tick = { ran with sbk := { s.sbk with handed := none, col := s.op.entry 0, mix := 0 } }) ∧
      (∀ e m, s.sbk.handed = some (.overlaid e m) → s.lle.lock = .standby →
        s.tick = { ran with sbk := { s.sbk with handed := none, col := s.op.entry 0, mix := 0 } }) ∧
      (∀ e m, s.sbk.handed = some (.overlaid e m) → s.lle.lock ≠ .standby →
        s.tick = { ran with sbk := { s.sbk with handed := none, col := s.op.entry e, mix := m } }))

/-- In part the model's choice (logs 7 and 8). POWER_ON leaves every block at its power-on values; PIN_RESET does so too
but keeps the palette entries and gives the reason PIN RESET; PIN_RESET_START forces the outputs and abandons the pulse
and the command in progress. Log 8: the pulse state is taken from the pin as soon as RESET falls, every other item
stands still while it is low, and PIN_RESET does the same without RESET low before it. Log 7: the values of the items
that no reset table names. The queue of commands and the count of free values are the model's own. -/
def Obligations.PowerOnAndPinReset : Prop :=
  ∀ s : State,
    (∀ level, exec (.powerOn level) s =
      .next { State.reset with
        sq := { State.reset.sq with pulseState := if level = .low then .waitHigh else .idle }
        pins := { s.pins with resetLow := false, csync := level }
        freeIndex := s.freeIndex
        pending := s.pending }) ∧
    exec .pinReset s =
      .next { State.reset with
        sq := { State.reset.sq with pulseState := if s.pins.csync = .low then .waitHigh else .idle }
        op := { State.reset.op with entries := s.op.entries }
        sbk := { State.reset.sbk with col := s.op.entry 0 }
        cpr := { State.reset.cpr with attention := { Attention.empty with pinReset := true } }
        pins := { s.pins with resetLow := false }
        freeIndex := s.freeIndex
        pending := s.pending } ∧
    ∃ t, exec .pinResetStart s = .next t ∧
      t = { s with
        pins := { s.pins with resetLow := true }
        sq := { s.sq with pulseState := if s.pins.csync = .low then .waitHigh else .idle }
        stg := { s.stg with
          cvsLow := false, chsLowUntil := none, edgeNow := false, edgeLast := false, sampleDue := false }
        sbk := { s.sbk with handed := none, col := Colour.black, mix := 0 }
        cpr := { s.cpr with collecting := none } } ∧
      t.pxck = .low ∧ t.chsOut = .high ∧ t.cvsOut = .high ∧ t.cfld = .low ∧ t.intLow = false ∧
      ∀ n, t.driveLow n = false

/-- The values that the reset tables give (01 R18, 02 R43, 03 R56, 04 R78, 07 R121, 08 R148, R154, 09 R162, 10 R170,
11 R177, R185). -/
def Obligations.ResetLeavesTheTabledValues : Prop :=
  let s := State.reset
  (s.sq.counter = 0 ∧ s.sq.hsReference = none ∧ s.sq.run = none ∧ s.sq.recognition = none ∧ s.sq.lengths = [] ∧
    s.sq.classes = [] ∧ s.sq.standard = .s625 ∧ s.sq.parity = .a) ∧
  (s.lle.lock = .standby ∧ s.lle.period = 524288 ∧ s.lle.edge = 524288 ∧ s.lle.gateOpen = false ∧
    s.lle.gateEdge = none ∧ s.lle.scheduled = none ∧ s.lle.missCount = 0 ∧ s.lle.holdCount = 0 ∧ s.lle.goodCount = 0 ∧
    s.lle.edgeSet = [] ∧ s.lle.lastError = none ∧ s.lle.y = 0 ∧ s.lle.fieldLines = 0 ∧ s.lle.stepTaken = false ∧
    s.lle.synthRun = 0 ∧ s.lle.realign = 0 ∧ s.lle.paritySure = false ∧ s.lle.fieldCounter = 0 ∧
    s.lle.flywheelLines = 0 ∧ s.lle.slips = 0 ∧ s.lle.verticalMisses = 0 ∧ s.lle.irregularFields = 0 ∧
    s.lle.reportRun = false) ∧
  (s.stg.increment = 1342177280 ∧ s.stg.linePixTotal = 640 ∧ s.stg.accumulator = 0 ∧ s.stg.awaiting = false ∧
    s.stg.delayCount = 0 ∧ s.stg.lineHdelay = 0 ∧ s.stg.chsLine = 0 ∧ s.stg.sampleCount = 0 ∧
    s.stg.lineCpixLat = 2 ∧ s.stg.cvsDone = true ∧ s.stg.hdelay = 0 ∧ s.stg.vdelay = 0 ∧ s.stg.hphase = 0 ∧
    s.chsOut = .high ∧ s.cvsOut = .high ∧ s.cfld = .low) ∧
  (s.titles = List.replicate 24 none ∧ s.aq.entries = [] ∧ s.aq.held = false) ∧
  (s.sbk.waiting = none ∧ s.sbk.keying = [] ∧ s.sbk.keyingMaster = 63 ∧ s.sbk.waitingMaster = 63 ∧
    s.sbk.overflowReported = false ∧ s.sbk.col = s.op.entry 0 ∧ s.sbk.mix = 0) ∧
  (s.op.entries = List.replicate 64 { r := 0, g := 0, b := 0 } ∧ s.op.cursor = 0 ∧ s.op.direction = .load ∧
    s.op.component = .r ∧ s.op.cycleOpen = true ∧ s.op.stagedR = none ∧ s.op.stagedG = none) ∧
  (∀ n, (s.clu.get n).role = .input ∧ (s.clu.get n).previous = none ∧ (s.clu.get n).qualified = .unknown) ∧
  (s.cpr.collecting = none ∧ s.cpr.results = [] ∧ s.cpr.portFault = false ∧ s.cpr.condition.key = .none ∧
    s.cpr.condition.lastCommand = 0 ∧
    s.cpr.attention = { powerOn := true, pinReset := false, standardChanged := false } ∧
    s.cpr.enables = 0 ∧ s.cpr.events = 0 ∧ s.noNotices = true ∧ s.cpr.notices.length = 24 ∧ s.intLow = false) ∧
  (s.settings =
    { standard := .auto, reference := .lock, pixTotal := 640, filter := 16, hspan := 2048, kp := 2, kf := 6
      gate := 48, window := 8, slipLimit := 4, holdLimit := 32, masterLevel := 63, cpixLat := 2 }) ∧
  s.statusByte = 0x50

/-! ### Sync qualification (01) -/

/-- A falling edge in IDLE begins a pulse: leading timestamp, filter width, TIMING (01 R2). A rising edge outside a
qualified pulse: WAIT HIGH and OVERLONG return to IDLE (01 R2, R7), and a pulse narrower
than F is a glitch that leaves nothing (01 R3), but that a run whose expiry fell during it ends (01 R10). While RESET is
low an edge of either direction moves the pin and the pulse state only (log 8). -/
def Obligations.EdgesBeginAndDropPulses : Prop :=
  ∀ s : State,
    (s.pins.csync = .high → s.pins.resetLow = false → s.sq.pulseState = .idle →
      exec .csyncFallingEdge s =
        .next { s with
          sq := { s.sq with leading := s.sq.counter, filterWidth := s.settings.filter, pulseState := .timing }
          pins := { s.pins with csync := .low } }) ∧
    (s.pins.csync = .low → s.pins.resetLow = false →
      (s.sq.pulseState = .waitHigh ∨ s.sq.pulseState = .overlong →
        exec .csyncRisingEdge s =
          .next { s with sq := { s.sq with pulseState := .idle }, pins := { s.pins with csync := .high } }) ∧
      (s.sq.pulseState = .timing → forward s.sq.leading s.sq.counter < s.sq.filterWidth →
        (∀ r, s.sq.run = some r → r.expiry ≠ none) →
        exec .csyncRisingEdge s =
          .next { s with sq := { s.sq with pulseState := .idle }, pins := { s.pins with csync := .high } }) ∧
      (∀ r, s.sq.pulseState = .timing → forward s.sq.leading s.sq.counter < s.sq.filterWidth → s.sq.run = some r →
        r.expiry = none →
        exec .csyncRisingEdge s =
          .next { s with
            sq := { s.sq with pulseState := .idle, run := none }, pins := { s.pins with csync := .high } })) ∧
    (s.pins.csync = .low → s.pins.resetLow = true →
      exec .csyncRisingEdge s =
        .next { s with sq := { s.sq with pulseState := .idle }, pins := { s.pins with csync := .high } }) ∧
    (s.pins.csync = .high → s.pins.resetLow = true →
      exec .csyncFallingEdge s =
        .next { s with sq := { s.sq with pulseState := .waitHigh }, pins := { s.pins with csync := .low } })

/-- A rising edge in TIMING at a width of F or more finds the pulse qualified at that edge, as its expiry
qualifies it, and is then taken as in QUALIFIED (01 R4). A rising edge in QUALIFIED classes the pulse by its
width (01 R6): EQ and HS end the broad run, HS sets the HS reference, OVERLONG makes it absent (01 R7, R9), and
BROAD goes to the broad run. The LLE takes the class only while it searches: HS joins the edge set, and the
other classes empty it (02 R28). The overlong expiry classes the pulse OVERLONG (01 R7); the run expiry ends the
run, or leaves it to the pulse in progress (01 R10). -/
def Obligations.PulsesAreClassedAndExpire : Prop :=
  ∀ s : State,
    let width := forward s.sq.leading s.sq.counter
    let high : Pins := { s.pins with csync := .high }
    let searching := decide (s.lle.lock = .freeRun ∧ s.settings.reference = .lock)
    let emptied : LineLock := if searching then { s.lle with edgeSet := [] } else s.lle
    (s.pins.csync = .low → s.pins.resetLow = false → s.sq.pulseState = .timing → s.sq.filterWidth ≤ width →
      exec .csyncRisingEdge s = exec .csyncRisingEdge s.qualify ∧
      (s.qualificationDue = true → exec .qualificationExpiry s = .next s.qualify)) ∧
    (s.pins.csync = .low → s.pins.resetLow = false → s.sq.pulseState = .qualified →
      (width ≤ 111 →
        exec .csyncRisingEdge s =
          .next { s with sq := { s.sq with run := none, pulseState := .idle }, pins := high, lle := emptied }) ∧
      (112 ≤ width → width ≤ 399 →
        exec .csyncRisingEdge s =
          .next { s with
            sq := { s.sq with run := none, hsReference := some s.sq.leading, pulseState := .idle }, pins := high
            lle := if searching then s.lle.searchEdge s.sq.leading else s.lle }) ∧
      (400 ≤ width → width ≤ 1100 →
        exec .csyncRisingEdge s =
          .next { s with sq := { s.sq.afterBroad with pulseState := .idle }, pins := high, lle := emptied }) ∧
      (1101 ≤ width →
        exec .csyncRisingEdge s =
          .next { s with
            sq := { s.sq with run := none, hsReference := none, pulseState := .idle }, pins := high
            lle := emptied })) ∧
    (s.overlongDue = true →
      exec .overlongExpiry s =
        .next { s with
          sq := { s.sq with pulseState := .overlong, run := none, hsReference := none }, lle := emptied }) ∧
    (s.runExpiryDue = true →
      (s.sq.pulseState = .idle ∨ s.sq.pulseState = .waitHigh →
        exec .runExpiry s = .next { s with sq := { s.sq with run := none } }) ∧
      (∀ r, s.sq.run = some r →
        s.sq.pulseState = .timing ∨ s.sq.pulseState = .qualified ∨ s.sq.pulseState = .overlong →
        exec .runExpiry s = .next { s with sq := { s.sq with run := some { r with expiry := none } } }))

/-- The broad run at a BROAD pulse (01 R8), and the field start recognition at its third (01 R11). -/
def Obligations.BroadRunAndRecognition : Prop :=
  ∀ q : SyncQualifier,
    let fresh : BroadRun :=
      { count := 1, first := q.position, last := q.leading, recognised := false, expiry := some (q.leading + 1150) }
    (q.run = none → q.afterBroad = { q with run := some fresh }) ∧
    ∀ r, q.run = some r →
      let spacing := forward r.last q.leading
      (spacing < 900 ∨ 1150 < spacing → q.afterBroad = { q with run := some fresh }) ∧
      (900 ≤ spacing → spacing ≤ 1150 →
        let on : BroadRun :=
          { r with count := r.count + 1, last := q.leading, expiry := some (q.leading + 1150) }
        (r.count = 2 → r.recognised = false →
          q.afterBroad =
            { q with
              run := some { on with recognised := true }
              recognition := some (if r.first = .atLine then .a else .b) }) ∧
        (r.count ≠ 2 ∨ r.recognised = true → q.afterBroad = { q with run := some on }))

/-- A pulse classed EQ, HS or OVERLONG, at its trailing edge or at its overlong expiry, ends the broad run and withdraws
no recognition (01 R9). -/
def Obligations.OtherClassesEndTheBroadRun : Prop :=
  ∀ (s t : State),
    ((s.pins.csync = .low ∧ s.pins.resetLow = false ∧ s.sq.pulseState = .qualified ∧
        (forward s.sq.leading s.sq.counter < 400 ∨ 1100 < forward s.sq.leading s.sq.counter) ∧
        exec .csyncRisingEdge s = .next t) ∨
      (s.overlongDue = true ∧ exec .overlongExpiry s = .next t)) →
    t.sq.run = none ∧ t.sq.recognition = s.sq.recognition

/-- The qualification expiry qualifies the pulse and records its position: against the HS reference in FREE-RUN and
STANDBY, against the gate edge, or E and the G in force while there is none, in the other states (01 R4, R5). A
candidate that the gate does not take leaves the LLE as it was (02 R22). -/
def Obligations.QualificationRecordsThePosition : Prop :=
  ∀ s : State, s.qualificationDue = true →
    let qualified (p : PulsePosition) : State := { s with sq := { s.sq with pulseState := .qualified, position := p } }
    (s.lle.lock.gated = false →
      let q := s.lle.period / 256
      (s.sq.hsReference = none → exec .qualificationExpiry s = .next (qualified .offLine)) ∧
      ∀ ref, s.sq.hsReference = some ref →
        let r := forward ref s.sq.leading % q
        (r ≤ s.settings.gate ∨ q - r ≤ s.settings.gate → exec .qualificationExpiry s = .next (qualified .atLine)) ∧
        (s.settings.gate < r → s.settings.gate < q - r →
          exec .qualificationExpiry s = .next (qualified .offLine))) ∧
    (s.lle.lock.gated = true →
      ∀ g : GateEdge, g = s.lle.gateEdge.getD { edge := s.lle.edge, halfWidth := s.settings.gate } →
        let near := (signedGap (fine s.sq.leading) g.edge).natAbs ≤ 256 * g.halfWidth
        (s.lle.gateOpen = false ∨ 256 * g.halfWidth < (signedGap (fine s.sq.leading) s.lle.edge).natAbs) →
        (near → exec .qualificationExpiry s = .next (qualified .atLine)) ∧
        (¬near → exec .qualificationExpiry s = .next (qualified .offLine)))

/-! ### Line lock (02) -/

/-- The set of an acquisition: what the test of 02 R28 asks, in whole numbers without a mean, and that a set that fails
loses its oldest edges until what is left passes, and no more of them than that takes. The P that acquisition takes from
a set that passes with 8 edges lies within its range (02 R29, R20). -/
def Obligations.AcquisitionSetIsTrimmedUntilItPasses : Prop :=
  (intervals [] = [] ∧ ∀ a : Timestamp, intervals [a] = [] ∧
    ∀ b es, intervals (a :: b :: es) = (b - a).toNat :: intervals (b :: es)) ∧
  (∀ es : List Timestamp,
    setPasses es = true ↔
      ∀ i ∈ intervals es, 1536 ≤ i ∧ i ≤ 2559 ∧
        ((intervals es).length * (i : Int) - ((intervals es).sum : Int)).natAbs ≤ 4 * (intervals es).length) ∧
  (∀ es : List Timestamp, setPasses (trimmed es) = true) ∧
  (∀ es : List Timestamp, trimmed es <:+ es) ∧
  (∀ es rest : List Timestamp, rest <:+ es → setPasses rest = true → rest.length ≤ (trimmed es).length) ∧
  (∀ es : List Timestamp, setPasses es = true → es.length = 8 →
    393216 ≤ (intervals es).sum * 256 / 7 ∧ (intervals es).sum * 256 / 7 ≤ 655359)

/-- The search in FREE-RUN under LOCK (02 R28, R29): an HS class appends its leading timestamp and the set is trimmed;
with 8 edges acquisition begins; EQ and BROAD empty the set. -/
def Obligations.SearchTakesHsClasses : Prop :=
  ∀ (s t : State), s.pins.csync = .low → s.pins.resetLow = false → s.sq.pulseState = .qualified →
    s.lle.lock = .freeRun → s.settings.reference = .lock → exec .csyncRisingEdge s = .next t →
    let width := forward s.sq.leading s.sq.counter
    let set := trimmed (s.lle.edgeSet ++ [s.sq.leading])
    (112 ≤ width → width ≤ 399 → set.length ≠ 8 → t.lle = { s.lle with edgeSet := set }) ∧
    (112 ≤ width → width ≤ 399 → set.length = 8 →
      let period := (intervals set).sum * 256 / 7
      t.lle =
        { s.lle with
          lock := .acquiring
          period := period
          edge := fine s.sq.leading + BitVec.ofNat 32 period
          goodCount := 0
          missCount := 0
          edgeSet := []
          gateEdge := none
          scheduled := none }) ∧
    (width < 112 ∨ 399 < width → t.lle = { s.lle with edgeSet := [] })

/-- The loop update of one line (02 R23): the phase error `e`, a phase correction and a frequency term rounded toward
minus infinity, P clamped, the line start scheduled 256 cc after the corrected edge. -/
def Obligations.LoopUpdateCorrectsPhaseAndPeriod : Prop :=
  ∀ (l : LineLock) (e : Int) (kp kf : Nat), 393216 ≤ l.period → l.period ≤ 655359 →
    let c := Int.fdiv e (2 ^ kp)
    let term := Int.fdiv e (2 ^ kf)
    let corrected := l.edge + BitVec.ofInt 32 c
    let m := l.loopUpdate e kp kf
    m.lastError = some e ∧
    (m.period : Int) = max 393216 (min 655359 (l.period + term)) ∧
    m.edge = corrected + BitVec.ofNat 32 m.period ∧
    m.scheduled = some (wholePart (corrected + 65536)) ∧
    m = { l with lastError := m.lastError, period := m.period, edge := m.edge, scheduled := m.scheduled }

/-- An accepted edge in FLYWHEEL returns the part to LOCKED with hold count 0 and is then taken as LOCKED takes it (02
R26). An accepted edge in LOCKED (02 R25): a good line works the miss count off, a missed line adds to it, and the
missed line that brings it to M is a slip. -/
def Obligations.TrackedEdgeIsGoodMissedOrASlip : Prop :=
  ∀ s : State, s.qualificationDue = true → s.lle.gateOpen = true →
    (signedGap (fine s.sq.leading) s.lle.edge).natAbs ≤ 256 * s.gateWidth →
    (s.lle.lock = .flywheel →
      exec .qualificationExpiry s =
        exec .qualificationExpiry { s with lle := { s.lle with lock := .locked, holdCount := 0 } }) ∧
    (s.lle.lock = .locked →
      let e := signedGap (fine s.sq.leading) s.lle.edge
      let shut : LineLock := { s.lle with gateOpen := false }
      let sq : SyncQualifier := { s.sq with pulseState := .qualified, position := s.judge s.sq.leading }
      (e.natAbs ≤ 256 * s.settings.window →
        exec .qualificationExpiry s =
          .next { s with
            sq := sq
            lle := { shut.loopUpdate e s.settings.kp s.settings.kf with missCount := s.lle.missCount - 1 } }) ∧
      (256 * s.settings.window < e.natAbs → s.lle.missCount + 1 < s.settings.slipLimit →
        exec .qualificationExpiry s =
          .next { s with
            sq := sq
            lle := { shut.loopUpdate e s.settings.kp s.settings.kf with missCount := s.lle.missCount + 1 } }) ∧
      (256 * s.settings.window < e.natAbs → s.settings.slipLimit ≤ s.lle.missCount + 1 →
        exec .qualificationExpiry s =
          .next (({ s with
            sq := sq
            lle := { shut with
              scheduled := some (wholePart (fine s.sq.leading + 65536))
              edge := fine s.sq.leading + BitVec.ofNat 32 s.lle.period
              lastError := some e
              lock := .acquiring
              missCount := 0
              goodCount := 0
              slips := min 255 (s.lle.slips + 1) } } : State).raise .slip)))

/-- An accepted edge in ACQUIRING (02 R30): shifts 1 and max(4, Kf − 2); the sixteenth good line gains lock. -/
def Obligations.AcquiringEdgeCountsGoodLines : Prop :=
  ∀ s : State, s.qualificationDue = true → s.lle.lock = .acquiring → s.lle.gateOpen = true →
    (signedGap (fine s.sq.leading) s.lle.edge).natAbs ≤ 256 * s.gateWidth →
    let e := signedGap (fine s.sq.leading) s.lle.edge
    let updated := ({ s.lle with gateOpen := false } : LineLock).loopUpdate e 1 (max 4 (s.settings.kf - 2))
    let sq : SyncQualifier := { s.sq with pulseState := .qualified, position := s.judge s.sq.leading }
    (256 * s.settings.window < e.natAbs →
      exec .qualificationExpiry s = .next { s with sq := sq, lle := { updated with goodCount := 0 } }) ∧
    (e.natAbs ≤ 256 * s.settings.window → s.lle.goodCount < 15 →
      exec .qualificationExpiry s =
        .next { s with sq := sq, lle := { updated with goodCount := s.lle.goodCount + 1 } }) ∧
    (e.natAbs ≤ 256 * s.settings.window → 15 ≤ s.lle.goodCount →
      exec .qualificationExpiry s =
        .next (({ s with
          sq := sq, lle := { updated with lock := .locked, missCount := 0, goodCount := 0 } } : State).raise
            .lockGained))

/-- The gate opens with the G in force (02 R22), and in FREE-RUN and STANDBY a line is timed without one (02 R24). A
missing line (02 R24, R26, R27, R30): L = E with P unchanged; LOCKED goes to FLYWHEEL, FLYWHEEL counts to H and then
holds over, ACQUIRING ends. -/
def Obligations.GateOpensAndLinesWithoutAnEdgeAreTimed : Prop :=
  ∀ s : State,
    (s.gateOpenDue = true →
      exec .gateOpen s =
        .next { s with lle := { s.lle with
          gateOpen := true, gateEdge := some { edge := s.lle.edge, halfWidth := s.settings.gate } } }) ∧
    (s.freeLineDue = true →
      exec .freeLineDecision s =
        .next { s with lle := { s.lle with
          scheduled := some (wholePart (s.lle.edge + 65536))
          edge := s.lle.edge + BitVec.ofNat 32 s.lle.period } }) ∧
    (s.gateDecisionDue = true →
      let line : LineLock :=
        { s.lle with
          gateOpen := false
          scheduled := some (wholePart (s.lle.edge + 65536))
          edge := s.lle.edge + BitVec.ofNat 32 s.lle.period }
      let counted := min 65535 (s.lle.flywheelLines + 1)
      (s.lle.lock = .locked →
        exec .gateDecisionExpiry s =
          .next { s with lle := { line with lock := .flywheel, holdCount := 1, flywheelLines := counted } }) ∧
      (s.lle.lock = .flywheel → s.lle.holdCount < s.settings.holdLimit →
        exec .gateDecisionExpiry s =
          .next { s with lle := { line with holdCount := s.lle.holdCount + 1, flywheelLines := counted } }) ∧
      (s.lle.lock = .flywheel → s.settings.holdLimit ≤ s.lle.holdCount →
        exec .gateDecisionExpiry s =
          .next (({ s with lle := { line with
            lock := .freeRun, holdCount := 0, missCount := 0, goodCount := 0, edgeSet := []
            flywheelLines := counted } } : State).raise .lockLost)) ∧
      (s.lle.lock = .acquiring →
        exec .gateDecisionExpiry s =
          .next (({ s with lle := { line with
            lock := .freeRun, holdCount := 0, missCount := 0, goodCount := 0, edgeSet := [] } } : State).raise
              .lockLost)))

/-! ### Line starts, fields and the slaving outputs (02, 03, 08, 09) -/

/-- A line start that is due takes place (02 R21): it takes the pending recognition and the schedule. A field start
event commits the queue, and no other line start does (07 R127). A CHS still awaited is emitted first, with the old y
and the VDELAY from before the commit, unless the committed HDELAY is 0 and the two merge (03 R47; log 9; with no
waiting list, log 21). The STG takes I and the line PIXTOTAL and begins the count (03 R44, R46); a field start event
clears CVS done and overflow reported (03 R50, 08 R140). The waiting list is the span list of the records as committed
and before any field step (08 R136, 05 R83), and SPAN OVERFLOW is raised once a field where there are more than 8
candidates (08 R140). The lock, the loop, the palette and the settings stay. -/
def Obligations.LineStartCompletes : Prop :=
  ∀ (s : State) (cues : CueLevels) (cueFirst : Bool), s.lineStartDue = true →
    ∃ t, exec (.lineStart cues cueFirst) s = .next t ∧
      t.lle.scheduled = none ∧ t.sq.recognition = none ∧
      (let c := s.committedAt
       let late := decide (s.stg.awaiting = true ∧ c.stg.hdelay ≠ 0)
       let low := !s.stg.cvsDone && decide (2 + s.stg.vdelay ≤ s.lle.y)
       let emitted : SlaveTiming :=
         if late then
           { c.stg with
             chsLowUntil := some (s.sq.counter + 64)
             accumulator := BitVec.ofNat 32 (c.stg.hphase * 2 ^ 24)
             edgeNow := false
             sampleDue := false
             sampleCount := 0
             lineCpixLat := s.settings.cpixLat
             chsLine := s.lle.y
             cvsLow := low
             cvsDone := s.stg.cvsDone || low }
         else c.stg
       t.stg =
         { emitted with
           cvsDone := emitted.cvsDone && !s.startsField
           increment := BitVec.ofNat 32 (s.settings.pixTotal * 2 ^ 40 / s.lle.period)
           linePixTotal := s.settings.pixTotal
           awaiting := true
           delayCount := 0
           lineHdelay := c.stg.hdelay
           chsAt := if c.stg.hdelay = 0 then some s.sq.counter else none } ∧
       c.stg = { s.stg with hdelay := c.stg.hdelay, vdelay := c.stg.vdelay, hphase := c.stg.hphase } ∧
       (let at_ : State := { c with stg := { c.stg with linePixTotal := s.settings.pixTotal } }
        let tooMany := decide (8 < (c.candidates t.sq.parity t.lle.y).length)
        let reported := s.sbk.overflowReported && !s.startsField
        t.sbk =
          { s.sbk with
            keying := if late then s.sbk.waiting.getD s.sbk.keying else s.sbk.keying
            keyingMaster :=
              if late && s.sbk.waiting.isSome then s.sbk.waitingMaster else s.sbk.keyingMaster
            waiting := some (at_.spans t.sq.parity t.lle.y)
            waitingMaster := s.settings.masterLevel
            overflowReported := reported || tooMany } ∧
        t.cpr.events.has .spanOverflow =
          (s.cpr.events.has .spanOverflow || (tooMany && !reported && s.cpr.enables.has .spanOverflow))) ∧
       t.cpr.events.has .queueDrained = c.cpr.events.has .queueDrained ∧
       t.cpr.events.has .lockGained = s.cpr.events.has .lockGained ∧
       t.cpr.events.has .lockLost = s.cpr.events.has .lockLost ∧ t.cpr.events.has .slip = s.cpr.events.has .slip ∧
       t.cpr = { s.cpr with attention := t.cpr.attention, events := t.cpr.events, notices := t.cpr.notices }) ∧
      t.lle.lock = s.lle.lock ∧ t.lle.period = s.lle.period ∧ t.lle.edge = s.lle.edge ∧
      t.lle.gateOpen = s.lle.gateOpen ∧ t.lle.gateEdge = s.lle.gateEdge ∧
      t.lle.missCount = s.lle.missCount ∧ t.lle.holdCount = s.lle.holdCount ∧
      t.lle.goodCount = s.lle.goodCount ∧ t.lle.edgeSet = s.lle.edgeSet ∧ t.lle.lastError = s.lle.lastError ∧
      t.lle.flywheelLines = s.lle.flywheelLines ∧ t.lle.slips = s.lle.slips ∧ t.lle.reportRun = s.lle.reportRun ∧
      t.sq.counter = s.sq.counter ∧ t.sq.pulseState = s.sq.pulseState ∧ t.sq.run = s.sq.run ∧
      t.sq.hsReference = s.sq.hsReference ∧ t.op = s.op ∧ t.settings = s.settings ∧
      t.pins = { s.pins with cues := cues } ∧ t.freeIndex = s.freeIndex

/-- A real field start (02 R35): the measured length is handed, the parity is the recognition's, the field counter
advances, the line takes y = 2 with no step taken; FIELD IRREGULAR is counted and raised off its predicted line while
LOCKED or FLYWHEEL. The class joins the history, from which AUTO detects the working standard (01 R14, R15, R17). At y =
0, reached by LEAVE STANDBY before the first line start, the length handed is 0 (log 14). -/
def Obligations.RealFieldStartFollowsTheRecognition : Prop :=
  ∀ (s t : State) (cues : CueLevels) (cueFirst : Bool) (p : Parity),
    exec (.lineStart cues cueFirst) s = .next t → s.settings.reference = .lock → s.lle.lock ≠ .standby →
    s.sq.recognition = some p → s.lle.realign = 0 →
    t.lle.y = 2 ∧ t.lle.stepTaken = false ∧ t.lle.paritySure = true ∧ t.lle.synthRun = 0 ∧ t.lle.realign = 0 ∧
    t.lle.fieldCounter = s.lle.fieldCounter + 1 ∧ t.lle.verticalMisses = s.lle.verticalMisses ∧ t.sq.parity = p ∧
    t.lle.fieldLines = t.sq.predicted ∧
    t.sq.lengths = (some (s.lle.y + 1 - 2) :: s.sq.lengths).take 2 ∧
    t.sq.classes = (classOfLength s.settings.standard (s.lle.y + 1 - 2) :: s.sq.classes).take 4 ∧
    s.StandardFollows t ∧
    (let irregular :=
      decide (s.lle.y + 1 ≠ s.lle.fieldLines + 2 ∧ (s.lle.lock = .locked ∨ s.lle.lock = .flywheel))
     t.lle.irregularFields = (if irregular then min 255 (s.lle.irregularFields + 1) else s.lle.irregularFields) ∧
     t.cpr.events.has .fieldIrregular =
      (s.cpr.events.has .fieldIrregular || (irregular && s.cpr.enables.has .fieldIrregular)))

/-- A field start made by the vertical flywheel (02 R36), at y′ = N + 4 with no recognition. The unknown
length is classed IRREGULAR, so the working standard stays (01 R14, R15). -/
def Obligations.FlywheelFieldStartAtFourLinesLate : Prop :=
  ∀ (s t : State) (cues : CueLevels) (cueFirst : Bool),
    exec (.lineStart cues cueFirst) s = .next t → s.settings.reference = .lock → s.lle.lock ≠ .standby →
    s.sq.recognition = none → s.lle.y + 1 = s.lle.fieldLines + 4 →
    t.lle.y = 4 ∧ t.lle.stepTaken = true ∧ t.lle.realign = 8 ∧ t.lle.fieldCounter = s.lle.fieldCounter + 1 ∧
    t.lle.verticalMisses = min 255 (s.lle.verticalMisses + 1) ∧ t.lle.irregularFields = s.lle.irregularFields ∧
    t.lle.synthRun = min 4 (s.lle.synthRun + 1) ∧
    t.lle.paritySure = (if min 4 (s.lle.synthRun + 1) = 4 then false else s.lle.paritySure) ∧
    t.lle.closedLines = s.lle.fieldLines ∧ t.sq.parity = s.sq.parity.other ∧ t.lle.fieldLines = t.sq.predicted ∧
    t.sq.lengths = (none :: s.sq.lengths).take 2 ∧ t.sq.classes = (.irregular :: s.sq.classes).take 4 ∧
    s.StandardFollows t ∧ t.sq.standard = s.sq.standard ∧
    t.cpr.events.has .fieldIrregular = s.cpr.events.has .fieldIrregular

/-- A re-alignment (02 R37): the field is numbered again from y = 2 without a field start event, and the length of the
closed field takes the place of the newest entry, from which AUTO detects the working standard (01 R14, R15, R17). FIELD
IRREGULAR is counted and raised while LOCKED or FLYWHEEL. A length below 0 is 0 (log 14). -/
def Obligations.RealignmentRenumbersTheField : Prop :=
  ∀ (s t : State) (cues : CueLevels) (cueFirst : Bool) (p : Parity),
    exec (.lineStart cues cueFirst) s = .next t → s.settings.reference = .lock → s.lle.lock ≠ .standby →
    s.sq.recognition = some p → 0 < s.lle.realign →
    let length := s.lle.closedLines + (s.lle.y + 1) - 2
    t.lle.y = 2 ∧ t.lle.stepTaken = s.lle.stepTaken ∧ t.lle.paritySure = true ∧ t.lle.synthRun = 0 ∧
    t.lle.realign = 0 ∧ t.lle.fieldCounter = s.lle.fieldCounter ∧ t.sq.parity = p ∧
    t.lle.fieldLines = t.sq.predicted ∧
    t.sq.lengths = some length :: s.sq.lengths.drop 1 ∧
    t.sq.classes = classOfLength s.settings.standard length :: s.sq.classes.drop 1 ∧
    s.StandardFollows t ∧
    (let irregular := decide (s.lle.lock = .locked ∨ s.lle.lock = .flywheel)
     t.lle.irregularFields = (if irregular then min 255 (s.lle.irregularFields + 1) else s.lle.irregularFields) ∧
     t.cpr.events.has .fieldIrregular =
      (s.cpr.events.has .fieldIrregular || (irregular && s.cpr.enables.has .fieldIrregular)))

/-- Free mode (02 R38) and the lines that carry no field start (02 R21, R37, R40). In following mode a line past y′ = N
+ 4 runs on as any other: the model's choice (log 17), for 02 R36 tests equality. None of these lines hands a length or
raises STANDARD CHANGED or FIELD IRREGULAR. -/
def Obligations.FreeFieldStartAndPlainLines : Prop :=
  ∀ (s t : State) (cues : CueLevels) (cueFirst : Bool), exec (.lineStart cues cueFirst) s = .next t →
    let free : Prop := s.settings.reference = .internal ∨ s.lle.lock = .standby
    let stepHere := decide (s.lle.y + 1 = 3 ∧ s.lle.stepTaken = false ∧ s.lle.lock ≠ .standby)
    (free → s.lle.fieldLines + 2 ≤ s.lle.y + 1 →
      t.lle.y = 2 ∧ t.lle.stepTaken = false ∧ t.lle.fieldCounter = s.lle.fieldCounter + 1 ∧
      t.sq.parity = s.sq.parity.other ∧ t.lle.fieldLines = nominalLength s.sq.standard s.sq.parity.other ∧
      t.sq.lengths = s.sq.lengths ∧ t.sq.classes = s.sq.classes ∧ t.sq.standard = s.sq.standard ∧
      t.lle.paritySure = s.lle.paritySure ∧ t.lle.synthRun = s.lle.synthRun) ∧
    (free → s.lle.y + 1 < s.lle.fieldLines + 2 →
      t.lle = { s.lle with
        scheduled := none, y := s.lle.y + 1, stepTaken := s.lle.stepTaken || stepHere } ∧
      t.sq = { s.sq with recognition := none }) ∧
    (¬free → s.sq.recognition = none → s.lle.y + 1 ≠ s.lle.fieldLines + 4 →
      t.lle = { s.lle with
        scheduled := none, y := s.lle.y + 1, stepTaken := s.lle.stepTaken || stepHere
        realign := s.lle.realign - 1 } ∧
      t.sq = { s.sq with recognition := none }) ∧
    (free ∨ (s.sq.recognition = none ∧ s.lle.y + 1 ≠ s.lle.fieldLines + 4) →
      t.cpr.attention = s.cpr.attention ∧
      t.cpr.events.has .standardChanged = s.cpr.events.has .standardChanged ∧
      t.cpr.events.has .fieldIrregular = s.cpr.events.has .fieldIrregular)

/-- The class of a field length under each STANDARD setting (01 R14), and the predicted length of a field (02 R34): the
older entry of the length history where it is a number classed 625 or 525, else the nominal length of the standard and
the parity (01 R17), which stands too while there are fewer than two lengths or, after a write of STANDARD (01 R16),
fewer than two classes. -/
def Obligations.PredictedLengthOfAField : Prop :=
  (∀ (setting : StandardSetting) (n : Nat),
    (classOfLength setting n = .c625 ↔ 300 ≤ n ∧ n ≤ 330 ∧ setting ≠ .force525) ∧
    (classOfLength setting n = .c525 ↔ 250 ≤ n ∧ n ≤ 275 ∧ setting ≠ .force625)) ∧
  ∀ q : SyncQualifier,
    (∀ (a : Option Nat) (n : Nat) (c d : FieldClass) (rest : List FieldClass),
      q.lengths = [a, some n] → q.classes = c :: d :: rest → d ≠ .irregular → q.predicted = n) ∧
    ((∀ (a : Option Nat) (n : Nat), q.lengths ≠ [a, some n]) →
      q.predicted = nominalLength q.standard q.parity) ∧
    (q.classes.length < 2 → q.predicted = nominalLength q.standard q.parity) ∧
    (∀ (c : FieldClass) (rest : List FieldClass), q.classes = c :: .irregular :: rest →
      q.predicted = nominalLength q.standard q.parity) ∧
    nominalLength .s625 .a = 313 ∧ nominalLength .s625 .b = 312 ∧ nominalLength .s525 .a = 263 ∧
    nominalLength .s525 .b = 262

/-- What a line start does to the titles, in every lock state and under either REFERENCE. The line at y = 3 carries the
field step, and so does a field start made by the vertical flywheel (02 R36, R40), in which every live record takes its
own work and no other (05 R83), as the commit has left it and at the advanced field counter (05 R85); the cue edges
leave their marks before it or after it (05 R99, 09 R157), all four lines on one side (log 25). A title that reaches
DONE with auto-retire YES is freed with its queue entries (05 R92). The notices of the work join the sets of their
handles, and TITLE ACTIVITY is raised (05 R100). -/
def Obligations.LineStartStepsAndMarksTheTitles : Prop :=
  ∀ (s t : State) (cues : CueLevels) (cueFirst : Bool),
    exec (.lineStart cues cueFirst) s = .next t → s.titles.length = 24 → s.cpr.notices.length = 24 →
    let c := s.committedAt
    let work (r : Title) := s.lineWork cues cueFirst r
    (∀ h, t.title h =
      match c.title h with
      | none => none
      | some r => (work r).1) ∧
    (∀ h n, (t.noticeSet h).has n = true ↔
      (c.noticeSet h).has n = true ∨ ∃ r, c.title h = some r ∧ n ∈ (work r).2) ∧
    (t.cpr.events.has .titleActivity = true ↔
      c.cpr.events.has .titleActivity = true ∨
        (s.cpr.enables.has .titleActivity = true ∧ ∃ h r, c.title h = some r ∧ (work r).2 ≠ [])) ∧
    t.aq =
      { c.aq with entries := c.aq.entries.filter fun e =>
          match c.title e.handle with
          | none => true
          | some r => (work r).1.isSome }

/-- The work of a field step on a title that waits, starts, enters or turns (05 R83 to R86, R91), with the
notices it raises. DORMANT, HELD and DONE: none. ARMED: the start test; kind NONE goes to DWELL, and a motion
part enters with its first step at the same step. ENTERING: a motion step that completes, holds (05 R95) or goes
on; or, with END, the beginning of a leave by the exit held. TURNING: the forced deceleration, then two pause
fields, then LEAVING by REVERSE. -/
def Obligations.FieldStepStartsEntersAndTurns : Prop :=
  ∀ (n : BitVec 16) (t : Title),
    let starts : Prop := t.marks.go = true ∨ t.start = .field n.toNat
    let m := motionStep t
    let heldNow (u : Title) (c : Course) : Title :=
      { u with phase := .held c, velocity := 0, haltPending := false, marks := { u.marks with decel := false } }
    (t.phase = .dormant ∨ (∃ c, t.phase = .held c) ∨ (∃ o, t.phase = .done o) → titleStep n t = (t, [])) ∧
    (t.phase = .armed →
      (¬starts → titleStep n t = (t, [])) ∧
      (starts → t.motion = .none →
        let u : Title :=
          { t with phase := .showing .dwell, marks := { t.marks with go := false }, dwellLeft := t.dwell }
        titleStep n t = ({ u with disp := u.formula }, [.started, .entered])) ∧
      (∀ r, starts → t.motion.ramp = some r →
        let u : Title :=
          { t with
            phase := .showing .entering, marks := { t.marks with go := false, decel := false }, travel := 0
            velocity := 0, creepLeft := r.creep }
        titleStep n t = ((titleStep n u).1, .started :: (titleStep n u).2))) ∧
    (t.phase = .showing .entering → t.marks.endMark = false →
      let inDwell : Title :=
        { m.title with
          phase := .showing .dwell, dwellLeft := t.dwell, marks := { m.title.marks with decel := false } }
      (m.complete = true → t.haltPending = false → titleStep n t = (inDwell, [.entered])) ∧
      (m.complete = true → t.haltPending = true → titleStep n t = (heldNow inDwell .dwell, [.entered])) ∧
      (m.complete = false → t.haltPending = true → m.atStartRate = true →
        titleStep n t = (heldNow m.title .entering, [])) ∧
      (m.complete = false → t.haltPending = false ∨ m.atStartRate = false → titleStep n t = (m.title, []))) ∧
    (t.phase = .showing .entering → t.marks.endMark = true →
      let u : Title := { t with marks := { t.marks with endMark := false }, velocity := 0, byCommand := true }
      let ended : Title :=
        { u with
          phase := .done .leftOnCommand, marks := Marks.empty, turnPause := 0, leavePlanned := false
          haltPending := false, byCommand := false }
      let dropped : Display := { t.disp with level := t.disp.level - t.exitStep }
      (t.exit = .cut → titleStep n t = (ended, [.left, .done])) ∧
      (t.exit = .fade → t.disp.level ≤ t.exitStep →
        titleStep n t = ({ ended with disp := dropped }, [.left, .done])) ∧
      (t.exit = .fade → t.exitStep < t.disp.level →
        titleStep n t = ({ u with phase := .showing (.leaving .fade), disp := dropped }, [.left])) ∧
      (t.exit = .reverse →
        titleStep n t = ((titleStep n { u with phase := .showing .turning }).1, [.left]))) ∧
    (t.phase = .showing .turning →
      let rest : Title := { m.title with turnPause := 2 }
      (t.turnPause = 0 → m.complete = true ∨ m.atStartRate = true → t.haltPending = false →
        titleStep n t = (rest, [])) ∧
      (t.turnPause = 0 → m.complete = true ∨ m.atStartRate = true → t.haltPending = true →
        titleStep n t = (heldNow rest .turning, [])) ∧
      (t.turnPause = 0 → m.complete = false → m.atStartRate = false → titleStep n t = (m.title, [])) ∧
      (t.turnPause = 1 →
        titleStep n t =
          ({ t with
            phase := .showing (.leaving .reverse), turnPause := 0, velocity := 0, creepLeft := 0
            marks := { t.marks with decel := false } }, [])) ∧
      (2 ≤ t.turnPause → titleStep n t = ({ t with turnPause := t.turnPause - 1 }, [])))

/-- The work of a field step on a title that dwells or leaves (05 R87 to R90, R92), with the notices it raises. DWELL:
END, or the countdown reaching 0, begins the leave by the exit held; where nothing of the dwell is left to count the
countdown stands (log 11). LEAVING: a drop of the fade, or a motion step back, which ends the title, holds it (05 R95)
or goes on. The outcome follows leave by command. -/
def Obligations.FieldStepDwellsAndLeaves : Prop :=
  ∀ (n : BitVec 16) (t : Title),
    let ended (u : Title) : Title :=
      { u with
        phase := .done (if u.byCommand then .leftOnCommand else .completed), marks := Marks.empty, turnPause := 0
        leavePlanned := false, haltPending := false, byCommand := false }
    let dropped (u : Title) : Title := { u with disp := { u.disp with level := u.disp.level - u.exitStep } }
    let counts : Prop := t.ending ≠ .command ∧ 0 < t.dwell ∧ 0 < t.dwellLeft
    (t.phase = .showing .dwell → t.marks.endMark = false →
      (¬counts → titleStep n t = (t, [])) ∧
      (counts → 1 < t.dwellLeft → titleStep n t = ({ t with dwellLeft := t.dwellLeft - 1 }, []))) ∧
    (∀ u : Title, t.phase = .showing .dwell →
      (t.marks.endMark = true ∧ u = { t with marks := { t.marks with endMark := false } }) ∨
        (t.marks.endMark = false ∧ counts ∧ t.dwellLeft = 1 ∧ u = { t with dwellLeft := 0 }) →
      let back : Title :=
        { u with
          phase := .showing (.leaving .reverse), velocity := 0, creepLeft := 0
          marks := { u.marks with decel := false } }
      (t.exit = .cut ∨ (t.exit = .reverse ∧ t.motion = .none) → titleStep n t = (ended u, [.left, .done])) ∧
      (t.exit = .fade → t.disp.level ≤ t.exitStep → titleStep n t = (ended (dropped u), [.left, .done])) ∧
      (t.exit = .fade → t.exitStep < t.disp.level →
        titleStep n t = ({ dropped u with phase := .showing (.leaving .fade) }, [.left])) ∧
      (t.exit = .reverse → t.motion ≠ .none →
        titleStep n t = ((titleStep n back).1, .left :: (titleStep n back).2))) ∧
    (t.phase = .showing (.leaving .fade) →
      (t.disp.level ≤ t.exitStep → titleStep n t = (ended (dropped t), [.done])) ∧
      (t.exitStep < t.disp.level → titleStep n t = (dropped t, []))) ∧
    (t.phase = .showing (.leaving .reverse) →
      let m := motionStep t
      (m.title.travel = 0 → titleStep n t = (ended m.title, [.done])) ∧
      (m.title.travel ≠ 0 → t.haltPending = true → m.atStartRate = true →
        titleStep n t =
          ({ m.title with
            phase := .held (.leaving .reverse), velocity := 0, haltPending := false
            marks := { m.title.marks with decel := false } }, [])) ∧
      (m.title.travel ≠ 0 → t.haltPending = false ∨ m.atStartRate = false → titleStep n t = (m.title, [])))

/-- In STANDBY no field step occurs and no cue mark is made (05 R101, 02 R40, 09 R157): a line start that commits
nothing leaves every record, notice set and entry, takes the cue samples and raises the events of their edges. -/
def Obligations.StandbyLineStartKeepsTheTitles : Prop :=
  ∀ (s t : State) (cues : CueLevels) (cueFirst : Bool),
    exec (.lineStart cues cueFirst) s = .next t → s.lle.lock = .standby → (s.aq.held = true ∨ s.aq.entries = []) →
    t.titles = s.titles ∧ t.cpr.notices = s.cpr.notices ∧ t.aq = s.aq ∧
    ∀ n : Fin 4,
      let level := if s.driveLow n then .low else cueLevel cues n
      t.clu.get n = (s.clu.get n).sampled level ∧
      (t.cpr.events.has (.cue n) = true ↔
        s.cpr.events.has (.cue n) = true ∨
          ((s.clu.get n).hasEdge level = true ∧ s.cpr.enables.has (.cue n) = true))

/-- The debounce of one line (09 R156): a level read at two line starts running is qualified, and a qualified change
from HIGH to LOW of an INPUT line is an edge. At each line start, in every lock state, each INPUT line takes the level
outside; a TALLY line takes LOW while its title shows (09 R158) and the level outside otherwise; where the step frees
its title it is an INPUT line begun afresh (04 R71). In part the model's choice (logs 4 and 25): the operand of
LINE_START settles whether the lines are sampled before or after a field step, and all four, the TALLY lines too, are
sampled on the same side of it; 09 R157 leaves that order open for the edges of INPUT lines and says nothing of the
samples of TALLY lines. An edge raises its event (09 R157). Outside STANDBY it sets GO on every ARMED title that starts
on the line and END on every DWELL title that ends on it, and nothing else in any record (05 R99). -/
def Obligations.CueLevelsQualifyAndEdgesMarkTitles : Prop :=
  (∀ (l : CueLine) (sample : Level),
    (l.sampled sample).previous = some sample ∧ (l.sampled sample).role = l.role ∧
    (l.previous = some sample → (l.sampled sample).qualified = if sample = .low then .low else .high) ∧
    (l.previous ≠ some sample → (l.sampled sample).qualified = l.qualified) ∧
    (l.hasEdge sample = true ↔
      l.role = .input ∧ l.qualified = .high ∧ sample = .low ∧ l.previous = some .low)) ∧
  (∀ (s t : State) (cues : CueLevels) (cueFirst : Bool),
    exec (.lineStart cues cueFirst) s = .next t → s.titles.length = 24 →
    ∀ n : Fin 4,
      let outside := cueLevel cues n
      let afresh : CueLine := { role := .input, previous := none, qualified := .unknown }
      ((s.clu.get n).role = .input → t.clu.get n = (s.clu.get n).sampled outside) ∧
      (∀ g, (s.clu.get n).role = .tally g →
        let seen := if s.stepsField = true ∧ cueFirst = false then t.title g else s.title g
        let level := if (seen.map fun r => r.phase.isShowing) = some true then .low else outside
        let freed : Prop := s.title g ≠ none ∧ t.title g = none
        (¬freed → t.clu.get n = (s.clu.get n).sampled level) ∧
        (freed → cueFirst = true → t.clu.get n = afresh) ∧
        (freed → cueFirst = false → t.clu.get n = afresh.sampled outside)) ∧
      (t.cpr.events.has (.cue n) = true ↔
        s.cpr.events.has (.cue n) = true ∨
          ((s.clu.get n).hasEdge outside = true ∧ s.cpr.enables.has (.cue n) = true))) ∧
  ∀ (edge : Fin 4 → Bool) (r : Title),
    let marks := (r.markedBy edge).marks
    r.markedBy edge = { r with marks := marks } ∧ marks.decel = r.marks.decel ∧
    (∀ n, r.phase = .armed → r.start = .cue n → marks.go = (r.marks.go || edge n) ∧ marks.endMark = r.marks.endMark) ∧
    (∀ n, r.phase = .showing .dwell → r.ending = .cue n →
      marks.endMark = (r.marks.endMark || edge n) ∧ marks.go = r.marks.go) ∧
    ((r.phase = .armed → ∀ n, r.start ≠ .cue n) → (r.phase = .showing .dwell → ∀ n, r.ending ≠ .cue n) →
      marks = r.marks)

/-- A PXCK rising edge (03 R46, R48): CPIX is sampled, the sample is counted and numbered, the delay count runs while a
CHS is awaited, and the sample is keyed by the keying list (08 R142 to R144). The model's
choice (log 6): it is keyed at the edge and held until the next cc drives it, where 08 R147 keys it. -/
def Obligations.PixelSampleIsNumberedAndKeyed : Prop :=
  ∀ (s : State) (index : BitVec 4), s.pixelSampleDue = true →
    let k := min (s.stg.sampleCount + 1) 2047
    let x := k - s.stg.lineCpixLat - 1
    let stg : SlaveTiming :=
      if s.stg.awaiting then
        { s.stg with
          sampleCount := k, sampleDue := false, delayCount := s.stg.delayCount + 1
          chsAt := if s.stg.delayCount + 1 = s.stg.lineHdelay then some (s.sq.counter + 1) else s.stg.chsAt }
      else { s.stg with sampleCount := k, sampleDue := false }
    let after (sample : KeyedSample) : State :=
      { s with
        pins := { s.pins with cpix := index }, stg := stg, sbk := { s.sbk with handed := some sample } }
    let first := s.sbk.keying.find? fun sp => decide (sp.xl ≤ (x : Int) ∧ (x : Int) < sp.xr)
    let numbered : Prop := s.stg.lineCpixLat < k ∧ x < s.stg.linePixTotal
    (¬numbered → exec (.pixelSample index) s = .next (after .clear)) ∧
    (numbered → first = none → exec (.pixelSample index) s = .next (after .clear)) ∧
    ∀ sp, numbered → first = some sp →
      (sp.keysOpaque index = false → exec (.pixelSample index) s = .next (after .clear)) ∧
      (sp.keysOpaque index = true →
        exec (.pixelSample index) s =
          .next (after (.overlaid (sp.bank * 16 + index.toNat) (sp.level * s.sbk.keyingMaster / 63))))

/-- The key rule (08 R143): index and key colour agree when they have the same value in every plane that the mask
selects; NORMAL keys clear what agrees, INVERSE what does not. -/
def Obligations.KeyRuleComparesTheSelectedPlanes : Prop :=
  ∀ (sp : Span) (index : BitVec 4),
    let agree : Prop := ∀ plane < 4, sp.mask.getLsbD plane = true → index.getLsbD plane = sp.colour.getLsbD plane
    (sp.sense = .normal → (sp.keysOpaque index = true ↔ ¬agree)) ∧
    (sp.sense = .inverse → (sp.keysOpaque index = true ↔ agree))

/-- The span list of a line (08 R137 to R139): the first 8 candidates by priority and then by handle, in that order,
each of a record in a showing phase whose mask admits the parity and whose window covers the line, clipped to the
line. -/
def Obligations.SpanListHoldsTheTopmostEight : Prop :=
  ∀ (s : State) (p : Parity) (y : Nat),
    (s.spans p y).length = min 8 (s.candidates p y).length ∧
    (s.spans p y).map Span.handle = ((s.ordered p y).take 8).map Prod.fst ∧
    ((s.ordered p y).Pairwise fun a b =>
      b.2.place.prio < a.2.place.prio ∨ (a.2.place.prio = b.2.place.prio ∧ a.1 < b.1)) ∧
    (∀ h t, (h, t) ∈ s.ordered p y ↔
      s.title h = some t ∧ h ≤ 24 ∧ t.phase.isShowing = true ∧
        (t.place.mask = .both ∨ (t.place.mask = .a ∧ p = .a) ∨ (t.place.mask = .b ∧ p = .b)) ∧
        16 ≤ y ∧ t.disp.top ≤ (y : Int) ∧ (y : Int) < t.disp.top + t.place.height ∧ 0 < t.disp.width) ∧
    ∀ (k : Nat) (sp : Span), (s.spans p y)[k]? = some sp →
      ∃ h t, (s.ordered p y)[k]? = some (h, t) ∧
        sp =
          { handle := h, xl := max t.disp.left 0, xr := min (t.disp.left + t.disp.width) s.stg.linePixTotal
            colour := t.key.colour, mask := t.key.mask, sense := t.key.sense, bank := t.key.bank
            level := t.disp.level }

/-- CHS (03 R46, R50, 08 R141) and the end of its pulse (03 R46). That a CHS without a waiting list keeps the keying
list is the model's choice (log 21), for a state that no run reaches. The outputs: PXCK is high for the cc of a carry
and the next (03 R45), and the CHS makes no carry of its own cc (03 R46); CHS is low for the 64 cc after it (03 R46);
CVS is low from the CHS that starts it to the next CHS (03 R50); CFLD is high exactly for parity B (03 R51). No command
but a CHS, its end, a line start, power-on and a pin reset changes one of them, and a line start that finds no CHS
awaited leaves PXCK, CHS and CVS. -/
def Obligations.ChsLoadsTheLineAndOutputsFollowTheirRules : Prop :=
  ∀ s : State,
    (s.chsDue = true →
      let low := !s.stg.cvsDone && decide (2 + s.stg.vdelay ≤ s.lle.y)
      let stg : SlaveTiming :=
        { s.stg with
          chsLowUntil := some (s.sq.counter + 64)
          accumulator := BitVec.ofNat 32 (s.stg.hphase * 2 ^ 24)
          edgeNow := false
          sampleDue := false
          sampleCount := 0
          lineCpixLat := s.settings.cpixLat
          chsLine := s.lle.y
          cvsLow := low
          cvsDone := s.stg.cvsDone || low
          awaiting := false
          chsAt := none }
      (s.sbk.waiting = none → exec .chs s = .next { s with stg := stg }) ∧
      (∀ spans, s.sbk.waiting = some spans →
        exec .chs s =
          .next { s with
            stg := stg
            sbk := { s.sbk with keying := spans, keyingMaster := s.sbk.waitingMaster, waiting := none } })) ∧
    (s.chsPulseEndDue = true → exec .chsPulseEnd s = .next { s with stg := { s.stg with chsLowUntil := none } }) ∧
    (let carries (u : State) : Prop := 2 ^ 32 ≤ u.stg.accumulator.toNat + u.stg.increment.toNat
     s.pins.resetLow = false →
      (s.cfld = .high ↔ s.sq.parity = .b) ∧ (s.tick.tick.pxck = .high ↔ carries s ∨ carries s.tick) ∧
      (∀ t, exec .chs s = .next t → (t.pxck = .high ↔ s.stg.edgeLast = true) ∧
        (t.tick.pxck = .high ↔ carries t))) ∧
    (∀ t, exec .chs s = .next t →
      (∀ n ≤ 64, let u := State.tick^[n] t; u.chsOut = .low ∧ (u.chsPulseEndDue = true ↔ n = 64)) ∧
      (t.cvsOut = .low ↔ s.stg.cvsDone = false ∧ 2 + s.stg.vdelay ≤ s.lle.y)) ∧
    (∀ t, exec .chsPulseEnd s = .next t →
      t.chsOut = .high ∧ t.pxck = s.pxck ∧ t.cvsOut = s.cvsOut ∧ t.cfld = s.cfld) ∧
    (s.tick.chsOut = s.chsOut ∧ s.tick.cvsOut = s.cvsOut ∧ s.tick.cfld = s.cfld) ∧
    (∀ t cues cueFirst, exec (.lineStart cues cueFirst) s = .next t → s.stg.awaiting = false →
      t.pxck = s.pxck ∧ t.chsOut = s.chsOut ∧ t.cvsOut = s.cvsOut) ∧
    ∀ (c : Instr) (t : State), exec c s = .next t →
      (match c with
      | .chs => False
      | .chsPulseEnd => False
      | .lineStart _ _ => False
      | .powerOn _ => False
      | .pinReset => False
      | .pinResetStart => False
      | _ => True) →
      t.pxck = s.pxck ∧ t.chsOut = s.chsOut ∧ t.cvsOut = s.cvsOut ∧ t.cfld = s.cfld

/-- When each clock event falls due: the state that arms it and the reading at which it is due, RESET being high.
The qualification expiry at leading + F (01 R2, R4); the overlong expiry at leading + 1101 (01 R2, R7); the run
expiry (01 R10); the gate opens at E/256 − G rounded up, G being GATE, and the line is missing at the whole part of
E/256 plus G + F + 1 with the G the open gate took, F being FILTER (02 R22; without an edge, which no open gate of a
run is, the GATE in force, log 21); in FREE-RUN and STANDBY the line is decided at the whole part of E/256 (02 R24);
the line start (02 R20, R21), CHS and the end of its pulse (03 R46) at the readings set for them; and a PXCK edge
that is not sampled yet (03 R48). The model's choices: a reading counts as reached up to 2^23 − 1 cc past it (log
16); a sample waits for a CHS or a line start of its cc (log 5); an event that is not due, and a CSYNC edge against
the pulse state or the level of the pin, stop by name, since neither can occur in the part (log 3; 01, "The pulse
state in summary"). The arithmetic of the readings is spelled out first. -/
def Obligations.ClockEventsFallDueAndElseStop : Prop :=
  (∀ now due : Timestamp,
    (reached now due = true ↔ (now - due).toNat < 2 ^ 23) ∧ forward due now = (now - due).toNat) ∧
  (∀ (t : Timestamp) (e l : FineTime),
    fine t = BitVec.ofNat 32 (256 * t.toNat) ∧ wholePart e = BitVec.ofNat 24 (e.toNat / 256) ∧
    signedGap e l = (e - l).toInt ∧ lineStartReading l = BitVec.ofNat 24 ((l + 65536).toNat / 256)) ∧
  ∀ s : State,
    let now := s.sq.counter
    let edge := s.lle.edge.toNat
    let gatedState : Prop := s.lle.lock = .acquiring ∨ s.lle.lock = .locked ∨ s.lle.lock = .flywheel
    let freeState : Prop := s.lle.lock = .freeRun ∨ s.lle.lock = .standby
    let decidesAt (g : Nat) : Timestamp := BitVec.ofNat 24 (edge / 256 + g + s.settings.filter + 1)
    (s.lle.lock.gated = true ↔ gatedState) ∧
    (∀ g, s.lle.gateEdge = some g → s.gateWidth = g.halfWidth) ∧
    (s.lle.gateEdge = none → s.gateWidth = s.settings.gate) ∧
    (s.qualificationDue = true ↔
      s.pins.resetLow = false ∧ s.sq.pulseState = .timing ∧
        reached now (s.sq.leading + BitVec.ofNat 24 s.sq.filterWidth) = true) ∧
    (s.overlongDue = true ↔
      s.pins.resetLow = false ∧ s.sq.pulseState = .qualified ∧ reached now (s.sq.leading + 1101) = true) ∧
    (s.runExpiryDue = true ↔
      s.pins.resetLow = false ∧ ∃ r t, s.sq.run = some r ∧ r.expiry = some t ∧ reached now t = true) ∧
    (s.gateOpenDue = true ↔
      s.pins.resetLow = false ∧ gatedState ∧ s.lle.gateOpen = false ∧
        reached now (BitVec.ofNat 24 ((edge + 255) / 256) - BitVec.ofNat 24 s.settings.gate) = true) ∧
    (∀ g, s.lle.gateEdge = some g →
      (s.gateDecisionDue = true ↔
        s.pins.resetLow = false ∧ gatedState ∧ s.lle.gateOpen = true ∧ reached now (decidesAt g.halfWidth) = true)) ∧
    (s.lle.gateEdge = none →
      (s.gateDecisionDue = true ↔
        s.pins.resetLow = false ∧ gatedState ∧ s.lle.gateOpen = true ∧
          reached now (decidesAt s.settings.gate) = true)) ∧
    (s.freeLineDue = true ↔
      s.pins.resetLow = false ∧ freeState ∧ reached now (BitVec.ofNat 24 (edge / 256)) = true) ∧
    (s.lineStartDue = true ↔
      s.pins.resetLow = false ∧ ∃ t, s.lle.scheduled = some t ∧ reached now t = true) ∧
    (s.chsDue = true ↔
      s.pins.resetLow = false ∧ s.stg.awaiting = true ∧ ∃ t, s.stg.chsAt = some t ∧ reached now t = true) ∧
    (s.chsPulseEndDue = true ↔
      s.pins.resetLow = false ∧ ∃ t, s.stg.chsLowUntil = some t ∧ reached now t = true) ∧
    (s.pixelSampleDue = true ↔
      s.pins.resetLow = false ∧ s.stg.sampleDue = true ∧ s.chsDue = false ∧ s.lineStartDue = false) ∧
    (s.qualificationDue = false → exec .qualificationExpiry s = .fault .eventNotDue) ∧
    (s.overlongDue = false → exec .overlongExpiry s = .fault .eventNotDue) ∧
    (s.runExpiryDue = false → exec .runExpiry s = .fault .eventNotDue) ∧
    (s.gateOpenDue = false → exec .gateOpen s = .fault .eventNotDue) ∧
    (s.gateDecisionDue = false → exec .gateDecisionExpiry s = .fault .eventNotDue) ∧
    (s.freeLineDue = false → exec .freeLineDecision s = .fault .eventNotDue) ∧
    (∀ cues cueFirst, s.lineStartDue = false → exec (.lineStart cues cueFirst) s = .fault .eventNotDue) ∧
    (∀ index, s.pixelSampleDue = false → exec (.pixelSample index) s = .fault .eventNotDue) ∧
    (s.chsDue = false → exec .chs s = .fault .eventNotDue) ∧
    (s.chsPulseEndDue = false → exec .chsPulseEnd s = .fault .eventNotDue) ∧
    (s.pins.csync = .low → exec .csyncFallingEdge s = .fault .edgeCannotOccur) ∧
    (s.pins.csync = .high → exec .csyncRisingEdge s = .fault .edgeCannotOccur) ∧
    (s.pins.csync = .high → s.pins.resetLow = false → s.sq.pulseState ≠ .idle →
      exec .csyncFallingEdge s = .fault .edgeCannotOccur) ∧
    (s.pins.csync = .low → s.pins.resetLow = false → s.sq.pulseState = .idle →
      exec .csyncRisingEdge s = .fault .edgeCannotOccur)
/-! ### The port (11) and the palette path (08) -/

/-- While attention reasons are pending, every command but REPORT CONDITION is answered ATTENTION (11 R181): the reasons
go into the record and are cleared, and nothing else changes but what the writing of the bytes does (11 R174). -/
def Obligations.AttentionAnswersEveryCommand : Prop :=
  ∀ s : State, s.pins.resetLow = false → s.cpr.attention.any = true →
    (∀ (i : Instr) (c : Command) (b : Byte) (ps : List Byte), i.lastByteOf = some (c, b) → c ≠ .reportCondition →
      s.Collects c ps → ps.length + 1 = c.paramCount → exec i s = .next (s.attentionAnswered c.code)) ∧
    (∀ (i : Instr) (c : Command), i.wholeCommand = some c →
      exec i s = .next (s.abandoning.attentionAnswered c.code)) ∧
    (∀ code, Command.ofCode code = none →
      exec (.unknownCommand code) s = .next (s.abandoning.attentionAnswered code))

/-- The command code table, with how many parameter bytes each command takes, and that a byte names a command by it
alone (11 R174). The writes that perform no command (11 R173, R174), and the unknown code (11 R176): a command byte
abandons what is being collected with PORT FAULT and empties the result list; a parameter byte joins the command, or
sets PORT FAULT. -/
def Obligations.PortWritesCollectAndAbandon : Prop :=
  (∀ c : Command,
    (c, c.code, c.paramCount) ∈
      ([(.createTitle, 0x10, 41), (.amendTitle, 0x11, 4), (.queryTitle, 0x12, 1), (.listTitles, 0x13, 2),
        (.hitTest, 0x14, 5), (.retireTitle, 0x15, 2), (.resetTitles, 0x16, 0), (.arm, 0x20, 1), (.disarm, 0x21, 1),
        (.start, 0x22, 1), (.leave, 0x23, 1), (.halt, 0x24, 2), (.resume, 0x25, 1), (.rearm, 0x26, 1),
        (.cutAll, 0x27, 0), (.setTiming, 0x30, 3), (.holdAmendments, 0x31, 0), (.applyAmendments, 0x32, 0),
        (.queryPending, 0x33, 0), (.discardPending, 0x34, 1), (.setMode, 0x40, 3), (.reportMode, 0x41, 1),
        (.setEvents, 0x42, 2), (.enterStandby, 0x43, 0), (.leaveStandby, 0x44, 0), (.setCueLine, 0x50, 3),
        (.reportCueLines, 0x51, 0), (.reportCondition, 0x60, 1), (.reportLock, 0x61, 0), (.readEvents, 0x62, 0),
        (.readNotices, 0x63, 0)] : List (Command × Byte × Nat))) ∧
  (∀ (b : Byte) (c : Command), Command.ofCode b = some c ↔ c.code = b) ∧
  ∀ s : State, s.pins.resetLow = false →
    (∀ c : Command, c.paramCount ≠ 0 →
      exec (.commandByteWrite c.code) s =
        .next { s with cpr := { s.cpr with
          portFault := s.cpr.portFault || s.cpr.collecting.isSome
          collecting := some { command := c, params := [] }
          results := [] } }) ∧
    (∀ (c : Command) (ps : List Byte) (b : Byte), s.Collects c ps → ps.length + 1 ≠ c.paramCount →
      exec (.parameterByteWrite b) s =
        .next { s with cpr := { s.cpr with collecting := some { command := c, params := ps ++ [b] } } }) ∧
    (∀ b, s.cpr.collecting = none →
      exec (.strayParameterByte b) s = .next { s with cpr := { s.cpr with portFault := true } }) ∧
    (∀ code, Command.ofCode code = none → s.cpr.attention.any = false →
      exec (.unknownCommand code) s =
        .next (s.abandoning.answered code (Reply.check .illegalRequest 1 0 0)))

/-- A byte does what 11 R174 makes of it, whichever row sends it (log 2): a last parameter byte and the code of a
command without parameters perform the command, and the row of a command that is not being collected is a plain
parameter byte. -/
def Obligations.BytesActByTheStateOfCollection : Prop :=
  ∀ (i : Instr) (s : State),
    (∀ (c : Command) (b : Byte) (ps : List Byte), i.lastByteOf = some (c, b) →
      (s.Collects c ps → ps.length + 1 = c.paramCount → exec (.parameterByteWrite b) s = exec i s) ∧
      (s.cpr.collecting = none → exec i s = exec (.strayParameterByte b) s) ∧
      (s.Collects c ps → ps.length + 1 ≠ c.paramCount → exec i s = exec (.parameterByteWrite b) s) ∧
      (∀ d, s.Collects d ps → d ≠ c → exec i s = exec (.parameterByteWrite b) s)) ∧
    (∀ c : Command, i.wholeCommand = some c → exec (.commandByteWrite c.code) s = exec i s)

/-- The reads of the command port: the oldest result byte, or 00H with PORT FAULT (11 R175), and the status byte, whose
PORT FAULT clears at the read (11 R172). -/
def Obligations.PortReadsReturnResultsAndStatus : Prop :=
  ∀ s : State, s.pins.resetLow = false →
    (∀ b rest, s.cpr.results = b :: rest →
      exec .resultRead s = .next { s with cpr := { s.cpr with results := rest, readData := some b } }) ∧
    (s.cpr.results = [] →
      exec .resultRead s = .next { s with cpr := { s.cpr with portFault := true, readData := some 0 } }) ∧
    ∃ byte : Byte,
      exec .statusRead s = .next { s with cpr := { s.cpr with portFault := false, readData := some byte } } ∧
      (byte.getLsbD 0 = true ↔ s.cpr.collecting ≠ none) ∧ (byte.getLsbD 1 = true ↔ s.cpr.results ≠ []) ∧
      (byte.getLsbD 2 = true ↔ s.cpr.portFault = true) ∧ (byte.getLsbD 3 = true ↔ s.cpr.condition.key ≠ .none) ∧
      (byte.getLsbD 4 = true ↔ s.cpr.attention ≠ Attention.empty) ∧
      (byte.getLsbD 5 = true ↔ s.cpr.events ≠ 0) ∧ (byte.getLsbD 5 = true ↔ s.intLow = true) ∧
      (byte.getLsbD 6 = true ↔ s.lle.lock = .standby) ∧
      (byte.getLsbD 7 = true ↔ s.lle.lock = .locked ∨ s.lle.lock = .flywheel)

/-- While RESET is low every write of the host is ignored, and a read drives no byte and has no other effect
(11 R171). That such a read takes no result byte and sets no flag is the model's choice (log 8). -/
def Obligations.ResetLowIgnoresTheHostPort : Prop :=
  ∀ (i : Instr) (s : State), s.pins.resetLow = true →
    (i.isHostWrite = true → exec i s = .next s) ∧
    (i.isHostRead = true → exec i s = .next { s with cpr := { s.cpr with readData := none } })

/-- The palette address (08 R150), the load cycle (08 R151), the read cycle (08 R152) and the accesses that do not match
the cycle (08 R153). -/
def Obligations.PaletteCyclesLoadAndRead : Prop :=
  ∀ s : State, s.pins.resetLow = false →
    (∀ b : Byte,
      exec (.paletteAddressWrite b) s =
        .next { s with op := { s.op with
          cursor := (b &&& 0x3F).toNat
          direction := if b.getLsbD 7 then .read else .load
          component := .r
          cycleOpen := true
          stagedR := none
          stagedG := none } }) ∧
    exec .paletteAddressRead s =
      .next { s with cpr := { s.cpr with portFault := true, readData := some 0 } } ∧
    (s.op.cycleOpen = true → s.op.direction = .load → ∀ b : Byte,
      (s.op.component = .r →
        exec (.paletteDataWrite b) s =
          .next { s with op := { s.op with stagedR := some (b.truncate 6), component := .g } }) ∧
      (s.op.component = .g →
        exec (.paletteDataWrite b) s =
          .next { s with op := { s.op with stagedG := some (b.truncate 6), component := .b } }) ∧
      (∀ r g, s.op.component = .b → s.op.stagedR = some r → s.op.stagedG = some g →
        exec (.paletteDataWrite b) s =
          .next { s with op := { s.op with
            entries := s.op.entries.set s.op.cursor { r := r, g := g, b := b.truncate 6 }
            stagedR := none
            stagedG := none
            cursor := (s.op.cursor + 1) % 64
            component := .r } })) ∧
    (s.op.cycleOpen = true → s.op.direction = .read →
      let was := s.op.entry s.op.cursor
      (s.op.component = .r →
        exec .paletteDataRead s =
          .next { s with
            op := { s.op with component := .g }
            cpr := { s.cpr with readData := some (was.r.zeroExtend 8) } }) ∧
      (s.op.component = .g →
        exec .paletteDataRead s =
          .next { s with
            op := { s.op with component := .b }
            cpr := { s.cpr with readData := some (was.g.zeroExtend 8) } }) ∧
      (s.op.component = .b →
        exec .paletteDataRead s =
          .next { s with
            op := { s.op with cursor := (s.op.cursor + 1) % 64, component := .r }
            cpr := { s.cpr with readData := some (was.b.zeroExtend 8) } })) ∧
    (let closed : Palette := { s.op with cycleOpen := false, stagedR := none, stagedG := none };
      (s.op.cycleOpen = false ∨ s.op.direction = .load →
        exec .paletteDataRead s =
          .next { s with op := closed, cpr := { s.cpr with portFault := true, readData := some 0 } }) ∧
      (s.op.cycleOpen = false ∨ s.op.direction = .read → ∀ b,
        exec (.paletteDataWrite b) s = .next { s with op := closed, cpr := { s.cpr with portFault := true } }))

/-! ### The title table (04), title sequencing (05) and the amendment queue (07) -/

/-- CREATE TITLE (04 R63, R65, R66): the first choice out of its choices is refused, and so is a full table; otherwise
the lowest-numbered FREE record takes the block, DORMANT with its runtime at 0, and the handle's notice set is emptied.
The completion is ADJUSTED by the first clamped field (04 R58, R60 to R62). The placement is clamped into the picture
(04 R58). -/
def Obligations.CreateTitleFillsTheLowestFreeRecord : Prop :=
  ∀ (s : State) (ps : List Byte) (b : Byte), s.Awaits .createTitle ps →
    let block := ps ++ [b]
    (∀ k, OutOfChoices block k → (∀ j < k, ¬OutOfChoices block j) →
      exec (.createTitle b) s = .next (s.answered 0x10 (Reply.check .illegalRequest 4 0 k))) ∧
    ((∀ k, ¬OutOfChoices block k) → (∀ h, 1 ≤ h → h ≤ 24 → s.title h ≠ none) →
      exec (.createTitle b) s = .next (s.answered 0x10 (Reply.check .resource 1 0 0))) ∧
    (∀ h : Byte, (∀ k, ¬OutOfChoices block k) → 1 ≤ h.toNat → h.toNat ≤ 24 → s.titles.length = 24 →
      s.title h.toNat = none → (∀ g, 1 ≤ g → g < h.toNat → s.title g ≠ none) →
      ∃ (t : Title) (reply : Reply),
        exec (.createTitle b) s = .next (((s.withTitle h t).clearNotices h.toNat).answered 0x10 reply) ∧
        FilledBy s.settings.pixTotal block t ∧ t.disp = t.formula ∧
        ((∀ k, ¬ClampedField s.settings.pixTotal block k) → reply = Reply.good [h]) ∧
        (∀ k, ClampedField s.settings.pixTotal block k → (∀ j < k, ¬ClampedField s.settings.pixTotal block j) →
          reply = Reply.adjusted h.toNat k [h]) ∧
        (1 ≤ s.settings.pixTotal → s.settings.pixTotal ≤ 1024 →
          t.place.prio ≤ 7 ∧ 16 ≤ t.place.top ∧ 1 ≤ t.place.height ∧ t.place.top + t.place.height ≤ 313 ∧
          1 ≤ t.place.width ∧ t.place.left + t.place.width ≤ s.settings.pixTotal))

/-- The codes of the title table by number (04, "Choice codes"), of the notice set and of the marks (11, "Sets"), and
the showing phases as those of codes 3 to 7 (04 R57). QUERY TITLE (04 R67; 11, "QUERY TITLE result"), LIST TITLES (04
R68) and HIT TEST (04 R69, R70) change nothing but the answer. Parameter byte 0 in the refusals of LIST TITLES and HIT
TEST is the model's choice (log 13). -/
def Obligations.TitleReportsAnswerFromTheTable : Prop :=
  (phaseCodeOf none = 0 ∧ (∀ t : Title, phaseCodeOf (some t) = t.phase.code) ∧
    Phase.code .dormant = 1 ∧ Phase.code .armed = 2 ∧ Phase.code (.showing .entering) = 3 ∧
    (∀ c, Phase.code (.held c) = 4) ∧ Phase.code (.showing .dwell) = 5 ∧ Phase.code (.showing .turning) = 6 ∧
    (∀ m, Phase.code (.showing (.leaving m)) = 7) ∧ (∀ o, Phase.code (.done o) = 8) ∧
    ∀ p : Phase, p.isShowing = true ↔ 3 ≤ p.code ∧ p.code ≤ 7) ∧
  (FieldMask.code .both = 0 ∧ FieldMask.code .a = 1 ∧ FieldMask.code .b = 2 ∧
    KeySense.code .normal = 0 ∧ KeySense.code .inverse = 1 ∧
    SideApproach.code .fromLeft = 0 ∧ SideApproach.code .fromRight = 1 ∧
    VertApproach.code .fromAbove = 2 ∧ VertApproach.code .fromBelow = 3 ∧
    StartCond.code .command = 0 ∧ (∀ n : Fin 4, StartCond.code (.cue n) = n.val + 1) ∧
    (∀ n, StartCond.code (.field n) = 5) ∧
    EndCond.code .dwell = 0 ∧ (∀ n : Fin 4, EndCond.code (.cue n) = n.val + 1) ∧ EndCond.code .command = 5 ∧
    Exit.code .cut = 0 ∧ Exit.code .fade = 1 ∧ Exit.code .reverse = 2) ∧
  (∀ (m : Marks) (n : NoticeSet),
    let weigh (w : Nat) (b : Bool) : Nat := if b then w else 0
    m.code = weigh 1 m.go + weigh 2 m.endMark + weigh 4 m.decel ∧
    n.code = weigh 1 n.started + weigh 2 n.entered + weigh 4 n.left + weigh 8 n.done + weigh 16 n.dropped ∧
    n.has .started = n.started ∧ n.has .entered = n.entered ∧ n.has .left = n.left ∧ n.has .done = n.done ∧
    n.has .dropped = n.dropped) ∧
  ∀ s : State,
    (∀ h : Byte, s.Awaits .queryTitle [] →
      (s.title h.toNat = none →
        exec (.queryTitle h) s = .next (s.answered 0x12 (Reply.check .illegalRequest 2 h.toNat 0))) ∧
      (∀ t, s.title h.toNat = some t →
        let word (n : Nat) : List Byte := [byteOf n, byteOf (n / 256)]
        let signed (i : Int) : List Byte := word (BitVec.ofInt 16 i).toNat
        let absent : Byte := 0xFF
        let heldFrom : Byte :=
          match t.phase with
          | .held .entering => 3
          | .held .dwell => 5
          | .held .turning => 6
          | .held (.leaving _) => 7
          | _ => absent
        let outcome : Byte :=
          match t.phase with
          | .done .completed => 0
          | .done .leftOnCommand => 1
          | .done .wasCut => 2
          | .done .neverShown => 3
          | _ => absent
        let manner : Byte :=
          match t.phase with
          | .showing (.leaving .fade) => 0
          | .held (.leaving .fade) => 0
          | .showing (.leaving .reverse) => 1
          | .held (.leaving .reverse) => 1
          | _ => absent
        let ramp (r : Ramp) : List Byte :=
          word r.course ++ word r.startRate ++ word r.runRate ++ word r.accel ++ word r.decel ++ word r.rampDown
            ++ [byteOf r.creep]
        let motion : List Byte :=
          match t.motion with
          | .none => List.replicate 17 0
          | .fade r => [1, 0] ++ ramp r ++ [0, 0]
          | .wipe a r => [2, byteOf a.code] ++ ramp r ++ [0, 0]
          | .slide a r reach => [3, byteOf a.code] ++ ramp r ++ word reach
          | .rise a r reach => [4, byteOf a.code] ++ ramp r ++ word reach
        let startField : Nat :=
          match t.start with
          | .field n => n
          | _ => 0
        let bit (b : Bool) : Byte := if b then 1 else 0
        let bytes : List Byte :=
          [byteOf t.phase.code, heldFrom, outcome, byteOf (s.noticeSet h.toNat).code, byteOf t.marks.code]
            ++ [byteOf t.place.prio, byteOf t.place.mask.code] ++ word t.place.top ++ word t.place.height
            ++ word t.place.left ++ word t.place.width
            ++ [byteOf t.key.colour.toNat, byteOf t.key.mask.toNat, byteOf t.key.sense.code, byteOf t.key.bank,
                byteOf t.key.level]
            ++ motion ++ [byteOf t.start.code] ++ word startField ++ word t.dwell
            ++ [byteOf t.ending.code, byteOf t.exit.code, byteOf t.exitStep, bit t.autoRetire]
            ++ word t.travel ++ word t.velocity ++ [byteOf t.creepLeft, byteOf t.turnPause] ++ word t.dwellLeft
            ++ [manner, bit t.leavePlanned, bit t.haltPending, bit t.byCommand]
            ++ signed t.disp.top ++ signed t.disp.left ++ word t.disp.width ++ [byteOf t.disp.level]
        exec (.queryTitle h) s = .next (s.answered 0x12 (Reply.good bytes)) ∧ bytes.length = 65)) ∧
    (∀ lo hi : Byte, s.Awaits .listTitles [lo] →
      let set := lo.toNat + 256 * hi.toNat
      let listed := (List.range' 1 24).filter fun h => set.testBit (phaseCodeOf (s.title h))
      (512 ≤ set → exec (.listTitles hi) s = .next (s.answered 0x13 (Reply.check .illegalRequest 4 0 0))) ∧
      (set < 512 →
        exec (.listTitles hi) s =
          .next (s.answered 0x13 (Reply.good (byteOf listed.length :: listed.map byteOf))))) ∧
    (∀ parity y0 y1 x0 x1 : Byte, s.Awaits .hitTest [parity, y0, y1, x0] →
      let y := y0.toNat + 256 * y1.toNat
      let x := x0.toNat + 256 * x1.toNat
      let answer (p : Parity) : Byte :=
        match (s.spans p y).find? fun sp => decide (sp.xl ≤ (x : Int) ∧ (x : Int) < sp.xr) with
        | none => 0
        | some sp => byteOf sp.handle
      (parity = 0 → exec (.hitTest x1) s = .next (s.answered 0x14 (Reply.good [answer .a]))) ∧
      (parity = 1 → exec (.hitTest x1) s = .next (s.answered 0x14 (Reply.good [answer .b]))) ∧
      (2 ≤ parity.toNat → exec (.hitTest x1) s = .next (s.answered 0x14 (Reply.check .illegalRequest 4 0 0))))

/-- The notice store and the pending events as they are written. An event that is raised becomes pending exactly when
its enable is set, and no other changes (11 R182). A notice joins its handle's set, and TITLE ACTIVITY is raised (05
R100). What a title's work leaves is recorded with its notices, and a title that has reached DONE with auto-retire YES
is freed, with its queue entries and nominations, its notices kept (05 R92, 04 R71, R72). A notice set that is emptied
takes TITLE ACTIVITY from the pending set where the store is left empty (04 R72, 11 R184). -/
def Obligations.NoticesAndEventsAreRecorded : Prop :=
  ∀ s : State,
    (∀ k, s.raise k = { s with cpr := { s.cpr with events := (s.raise k).cpr.events } } ∧
      ∀ j, (s.raise k).cpr.events.has j = true ↔
        s.cpr.events.has j = true ∨ (j = k ∧ s.cpr.enables.has k = true)) ∧
    (∀ h n, 1 ≤ h → h ≤ s.cpr.notices.length →
      let t := s.notify h n
      t = { s with cpr := { s.cpr with
        notices := t.cpr.notices, events := (s.raise .titleActivity).cpr.events } } ∧
      t.cpr.notices.length = s.cpr.notices.length ∧
      ∀ g i, (t.noticeSet g).has i = true ↔ (s.noticeSet g).has i = true ∨ (g = h ∧ i = n)) ∧
    (∀ h r ns, 1 ≤ h → h ≤ s.titles.length → h ≤ s.cpr.notices.length →
      let t := s.settleTitle h (r, ns)
      let retires : Prop := .done ∈ ns ∧ r.autoRetire = true
      (retires → t.title h = none) ∧ (¬retires → t.title h = some r) ∧ (∀ g, g ≠ h → t.title g = s.title g) ∧
      (∀ g i, (t.noticeSet g).has i = true ↔ (s.noticeSet g).has i = true ∨ (g = h ∧ i ∈ ns)) ∧
      (∀ k, t.cpr.events.has k = true ↔
        s.cpr.events.has k = true ∨ (k = .titleActivity ∧ ns ≠ [] ∧ s.cpr.enables.has .titleActivity = true)) ∧
      (retires →
        t.aq = { s.aq with entries := s.aq.entries.filter fun e => decide (e.handle ≠ h) } ∧
        ∀ n, t.clu.get n =
          if (s.clu.get n).role = .tally h then { role := .input, previous := none, qualified := .unknown }
          else s.clu.get n) ∧
      (¬retires → t.aq = s.aq ∧ t.clu = s.clu) ∧
      t = { s with
        titles := t.titles, aq := t.aq, clu := t.clu
        cpr := { s.cpr with notices := t.cpr.notices, events := t.cpr.events } }) ∧
    (∀ h, 1 ≤ h → h ≤ s.cpr.notices.length →
      let t := s.clearNotices h
      t = { s with cpr := { s.cpr with notices := t.cpr.notices, events := t.cpr.events } } ∧
      (∀ g, t.noticeSet g = if g = h then NoticeSet.empty else s.noticeSet g) ∧
      ∀ k, t.cpr.events.has k = true ↔
        s.cpr.events.has k = true ∧ (k = .titleActivity → ∃ g i, (t.noticeSet g).has i = true))

/-- RETIRE TITLE (04 R71 to R74): IMMEDIATE frees the record in any phase, with its queue entries, its nominations and
its notice set; GRACEFUL does so before the start and after the end, and else acts as LEAVE with auto-retire YES.
Parameter byte 0 in the refusal of a bad mode is the model's choice (log 13). -/
def Obligations.RetireFreesOrLeaves : Prop :=
  ∀ (s : State) (h : Byte), s.Awaits .retireTitle [h] →
    (s.title h.toNat = none →
      exec .retireTitleImmediate s = .next (s.answered 0x15 (Reply.check .illegalRequest 2 h.toNat 0)) ∧
      exec .retireTitleGraceful s = .next (s.answered 0x15 (Reply.check .illegalRequest 2 h.toNat 0))) ∧
    (∀ t, s.title h.toNat = some t →
      let freed := ((s.freed h).clearNotices h.toNat).answered 0x15 (Reply.good [])
      let kept : Title := { t with autoRetire := true }
      exec .retireTitleImmediate s = .next freed ∧
      ((t.phase = .dormant ∨ t.phase = .armed ∨ ∃ o, t.phase = .done o) →
        exec .retireTitleGraceful s = .next freed) ∧
      (t.phase.isShowing = true → ∀ w, leaveTitle kept = some w →
        exec .retireTitleGraceful s = .next ((s.settleTitle h.toNat w).answered 0x15 (Reply.good []))) ∧
      (t.phase.isShowing = true → leaveTitle kept = none →
        exec .retireTitleGraceful s = .next ((s.withTitle h kept).answered 0x15 (Reply.good [])))) ∧
    (∀ mode : Byte, 2 ≤ mode.toNat →
      exec (.parameterByteWrite mode) s = .next (s.answered 0x15 (Reply.check .illegalRequest 4 0 0)))

/-- RESET TITLES (04 R75) frees every record and empties the queue, the TALLY nominations and the notice store. CUT ALL
(05 R98, R92) ends every showing title with outcome CUT and touches no other record: each raises DONE and no LEFT, and
TITLE ACTIVITY with it (05 R100, 11 R182); each with auto-retire YES is freed with its queue entries and its
nominations, its notices kept (04 R71, R72). Nothing else changes but what the port holds after the command. -/
def Obligations.ResetTitlesAndCutAll : Prop :=
  ∀ s : State, s.Performs →
    (let line (l : CueLine) : CueLine :=
        { role := .input
          previous := if l.role = .input then l.previous else none
          qualified := if l.role = .input then l.qualified else .unknown };
      exec .resetTitles s =
        .next (({ s.abandoning with
          titles := List.replicate s.titles.length none
          aq := { entries := [], held := false }
          clu := { c0 := line s.clu.c0, c1 := line s.clu.c1, c2 := line s.clu.c2, c3 := line s.clu.c3 }
          cpr := { s.abandoning.cpr with
            notices := List.replicate s.cpr.notices.length NoticeSet.empty
            events := s.cpr.events.without .titleActivity } } : State).answered 0x16 (Reply.good []))) ∧
    exec .cutAll s = .next (s.abandoning.cutTitles.answered 0x27 (Reply.good [])) ∧
    (s.titles.length = 24 → s.cpr.notices.length = 24 →
      let c := s.abandoning.cutTitles
      let retires (t : Title) : Prop := t.phase.isShowing = true ∧ t.autoRetire = true
      (∀ h,
        (s.title h = none → c.title h = none) ∧
        (∀ t, s.title h = some t →
          (t.phase.isShowing = false → c.title h = some t) ∧
          (retires t → c.title h = none) ∧
          (t.phase.isShowing = true → t.autoRetire = false →
            c.title h =
              some { t with
                phase := .done .wasCut, marks := Marks.empty, turnPause := 0, leavePlanned := false
                haltPending := false, byCommand := false }))) ∧
      (∀ h n, (c.noticeSet h).has n = true ↔
        (s.noticeSet h).has n = true ∨ (n = .done ∧ ∃ t, s.title h = some t ∧ t.phase.isShowing = true)) ∧
      (∀ k, c.cpr.events.has k = true ↔
        s.cpr.events.has k = true ∨
          (k = .titleActivity ∧ s.cpr.enables.has .titleActivity = true ∧
            ∃ h t, s.title h = some t ∧ t.phase.isShowing = true)) ∧
      c.aq =
        { s.aq with entries := s.aq.entries.filter fun e =>
            match s.title e.handle with
            | none => true
            | some t => !(t.phase.isShowing && t.autoRetire) } ∧
      (∀ n,
        ((∃ h t, (s.clu.get n).role = .tally h ∧ s.title h = some t ∧ retires t) →
          c.clu.get n = { role := .input, previous := none, qualified := .unknown }) ∧
        ((∀ h t, (s.clu.get n).role = .tally h → s.title h = some t → ¬retires t) →
          c.clu.get n = s.clu.get n)) ∧
      c = { s with
        titles := c.titles, aq := c.aq, clu := c.clu
        cpr := { s.abandoning.cpr with notices := c.cpr.notices, events := c.cpr.events } })

/-- The refusals of the sequencing commands (05 R80): NO SUCH TITLE (04 R76), then WRONG PHASE in a phase outside those
the command accepts, with the phase's code (its table is in TitleReportsAnswerFromTheTable); a bad mode of HALT comes
first, its parameter byte 0 the model's choice (log 13). -/
def Obligations.SequencingCommandsAreRefusedByHandleAndPhase : Prop :=
  ∀ (s : State) (i : Instr) (c : Command) (b h : Byte) (ps : List Byte), i.lastByteOf = some (c, b) →
    c ∈ [.arm, .disarm, .start, .leave, .halt, .resume, .rearm] → s.Awaits c ps →
    (if c = .halt then ps = [h] else ps = [] ∧ h = b) →
    (s.title h.toNat = none → exec i s = .next (s.answered c.code (Reply.check .illegalRequest 2 h.toNat 0))) ∧
    (∀ t, s.title h.toNat = some t → ¬t.phase.accepts c →
      exec i s = .next (s.answered c.code (Reply.check .wrongPhase t.phase.code h.toNat 0))) ∧
    (c = .halt → ∀ mode : Byte, 2 ≤ mode.toNat →
      exec (.parameterByteWrite mode) s = .next (s.answered 0x24 (Reply.check .illegalRequest 4 0 0)))

/-- ARM and DISARM (05 R81), START (05 R82) and REARM (05 R97) in the phases they accept. -/
def Obligations.ArmDisarmStartAndRearm : Prop :=
  ∀ (s : State) (h : Byte) (t : Title), s.title h.toNat = some t →
    (s.Awaits .arm [] → t.phase = .dormant →
      exec (.arm h) s = .next ((s.withTitle h { t with phase := .armed }).answered 0x20 (Reply.good []))) ∧
    (s.Awaits .disarm [] → t.phase = .armed →
      exec (.disarm h) s =
        .next ((s.withTitle h { t with phase := .dormant, marks := { t.marks with go := false } }).answered 0x21
          (Reply.good []))) ∧
    (s.Awaits .start [] → t.phase = .dormant ∨ t.phase = .armed →
      exec (.start h) s =
        .next ((s.withTitle h { t with phase := .armed, marks := { t.marks with go := true } }).answered 0x22
          (Reply.good []))) ∧
    (s.Awaits .rearm [] → ∀ o, t.phase = .done o →
      let fresh : Title :=
        { t with
          phase := .dormant, marks := Marks.empty, travel := 0, velocity := 0, creepLeft := 0, turnPause := 0
          dwellLeft := 0, leavePlanned := false, haltPending := false, byCommand := false }
      exec (.rearm h) s =
        .next ((s.withTitle h { fresh with disp := fresh.formula }).answered 0x26 (Reply.good [])))

/-- LEAVE in each phase that accepts it (05 R93, R92), and RESUME (05 R96) without a planned leave and with one. Where a
title reaches DONE or begins to leave, its notices are raised and auto-retire is read. In part the model's choice (log
24): an END that an ENTERING title already carries stays where LEAVE finds its exit REVERSE, and a planned leave of a
title HELD from TURNING or LEAVING, which only that choice brings about, is dropped at the RESUME without effect. -/
def Obligations.LeaveAndResumeByPhase : Prop :=
  ∀ (s : State) (h : Byte) (t : Title), s.title h.toNat = some t →
    let ended (o : TitleOutcome) : Title :=
      { t with
        phase := .done o, marks := Marks.empty, turnPause := 0, leavePlanned := false, haltPending := false
        byCommand := false }
    (s.Awaits .leave [] →
      (t.phase = .dormant ∨ t.phase = .armed →
        exec (.leave h) s =
          .next ((s.settleTitle h.toNat (ended .neverShown, [.done])).answered 0x23 (Reply.good []))) ∧
      (t.phase = .showing .dwell →
        exec (.leave h) s =
          .next ((s.withTitle h { t with marks := { t.marks with endMark := true }, byCommand := true }).answered 0x23
            (Reply.good []))) ∧
      (t.phase = .showing .entering → t.exit = .cut →
        exec (.leave h) s =
          .next ((s.settleTitle h.toNat (ended .leftOnCommand, [.left, .done])).answered 0x23 (Reply.good []))) ∧
      (t.phase = .showing .entering → t.exit = .fade →
        exec (.leave h) s =
          .next ((s.withTitle h
            { t with
              marks := { t.marks with endMark := true, decel := false }, haltPending := false
              byCommand := true }).answered 0x23 (Reply.good []))) ∧
      (t.phase = .showing .entering → t.exit = .reverse →
        exec (.leave h) s =
          .next ((s.settleTitle h.toNat ({ t with phase := .showing .turning, byCommand := true }, [.left])).answered
            0x23 (Reply.good []))) ∧
      (t.phase = .held .dwell ∨ t.phase = .held .entering →
        exec (.leave h) s =
          .next ((s.withTitle h { t with leavePlanned := true, byCommand := true }).answered 0x23 (Reply.good [])))) ∧
    (s.Awaits .resume [] →
      (∀ c, t.phase = .held c → t.leavePlanned = false →
        exec (.resume h) s =
          .next ((s.withTitle h { t with phase := .showing c, velocity := 0, creepLeft := 0 }).answered 0x25
            (Reply.good []))) ∧
      (t.phase = .held .dwell → t.leavePlanned = true →
        exec (.resume h) s =
          .next ((s.withTitle h
            { t with
              phase := .showing .dwell, velocity := 0, creepLeft := 0, leavePlanned := false
              marks := { t.marks with endMark := true } }).answered 0x25 (Reply.good []))) ∧
      (t.phase = .held .entering → t.leavePlanned = true → t.exit = .cut → t.byCommand = true →
        exec (.resume h) s =
          .next ((s.settleTitle h.toNat
            ({ ended .leftOnCommand with velocity := 0, creepLeft := 0 }, [.left, .done])).answered 0x25
              (Reply.good []))) ∧
      (t.phase = .held .entering → t.leavePlanned = true → t.exit = .fade →
        exec (.resume h) s =
          .next ((s.withTitle h
            { t with
              phase := .showing .entering, velocity := 0, creepLeft := 0, leavePlanned := false
              haltPending := false, marks := { t.marks with endMark := true, decel := false } }).answered 0x25
                (Reply.good []))) ∧
      (t.phase = .held .entering → t.leavePlanned = true → t.exit = .reverse →
        exec (.resume h) s =
          .next ((s.settleTitle h.toNat
            ({ t with phase := .showing .turning, velocity := 0, creepLeft := 0, leavePlanned := false },
              [.left])).answered 0x25 (Reply.good []))) ∧
      (∀ c, t.phase = .held c → c = .turning ∨ (∃ manner, c = .leaving manner) → t.leavePlanned = true →
        exec (.resume h) s =
          .next ((s.withTitle h
            { t with phase := .showing c, velocity := 0, creepLeft := 0, leavePlanned := false }).answered 0x25
              (Reply.good []))))

/-- HALT IMMEDIATE in every showing phase (05 R94), and HALT DECELERATED, which slows a moving title and holds any other
at once (05 R95). -/
def Obligations.HaltHoldsAtOnceOrSlows : Prop :=
  ∀ (s : State) (h : Byte) (t : Title) (c : Course), s.title h.toNat = some t → t.phase = .showing c →
    s.Awaits .halt [h] →
    let held : Title :=
      { t with
        phase := .held c, velocity := 0, haltPending := false
        marks := { t.marks with endMark := false, decel := false }
        leavePlanned := t.leavePlanned || t.marks.endMark }
    let slows : Prop :=
      (c = .entering ∧ t.marks.endMark = false) ∨ c = .leaving .reverse ∨ (c = .turning ∧ t.turnPause = 0)
    exec .haltImmediate s = .next ((s.withTitle h held).answered 0x24 (Reply.good [])) ∧
    (¬slows → exec .haltDecelerated s = .next ((s.withTitle h held).answered 0x24 (Reply.good []))) ∧
    (slows →
      exec .haltDecelerated s =
        .next ((s.withTitle h { t with marks := { t.marks with decel := true }, haltPending := true }).answered 0x24
          (Reply.good [])))

/-- AMEND TITLE (07 R122 to R124) and SET TIMING (07 R125): the checks in their order, the clamp at staging, and the
three ways of 07 R126 into the queue. -/
def Obligations.AmendmentsAreCheckedClampedAndStaged : Prop :=
  (∀ (s : State) (h item lo hi : Byte), s.Awaits .amendTitle [h, item, lo] →
    let value := lo.toNat + 256 * hi.toNat
    let outOfChoices : Prop :=
      match item.toNat with
      | 2 => 2 < value
      | 9 => 1 < value
      | 12 => 4 < value
      | 13 => 3 < value
      | 22 => 5 < value
      | 25 => 5 < value
      | 26 => 2 < value
      | 28 => 1 < value
      | _ => False
    let pix := s.settings.pixTotal
    let clamped : Nat :=
      match item.toNat with
      | 1 => within 0 7 value
      | 3 => within 16 312 value
      | 4 => within 1 297 value
      | 5 => within 0 (pix - 1) value
      | 6 => if pix = 0 then 1 else within 1 pix value
      | 7 => within 0 15 value
      | 8 => within 0 15 value
      | 10 => within 0 3 value
      | 11 => within 0 63 value
      | 15 => within 1 4095 value
      | 16 => within 1 4095 value
      | 17 => within 1 4095 value
      | 18 => within 1 4095 value
      | 20 => within 0 255 value
      | 21 => within 0 1023 value
      | 27 => within 1 63 value
      | _ => value
    let n : Entry := { handle := h.toNat, item := item.toNat, value := clamped }
    let reply := if n.value = value then Reply.good [] else Reply.adjusted h.toNat 3 []
    (outOfChoices →
      exec (.amendTitle hi) s = .next (s.answered 0x11 (Reply.check .illegalRequest 4 0 3))) ∧
    (¬outOfChoices → s.title h.toNat = none →
      exec (.amendTitle hi) s = .next (s.answered 0x11 (Reply.check .illegalRequest 2 h.toNat 0))) ∧
    (∀ t, ¬outOfChoices → s.title h.toNat = some t →
      (item.toNat = 0 ∨ 28 < item.toNat →
        exec (.amendTitle hi) s = .next (s.answered 0x11 (Reply.check .illegalRequest 3 0 2))) ∧
      (item.toNat = 22 ∨ item.toNat = 23 → t.phase ≠ .dormant → t.phase ≠ .armed →
        exec (.amendTitle hi) s = .next (s.answered 0x11 (Reply.check .wrongPhase t.phase.code h.toNat 0))) ∧
      (1 ≤ item.toNat → item.toNat ≤ 28 →
        ((item.toNat = 22 ∨ item.toNat = 23) → t.phase = .dormant ∨ t.phase = .armed) →
        (∀ q, s.aq.stage n = some q →
          exec (.amendTitle hi) s = .next (({ s with aq := q } : State).answered 0x11 reply)) ∧
        (s.aq.stage n = none →
          exec (.amendTitle hi) s = .next (s.answered 0x11 (Reply.check .resource 2 h.toNat 0)))))) ∧
  (∀ (s : State) (item lo hi : Byte), s.Awaits .setTiming [item, lo] →
    let value := lo.toNat + 256 * hi.toNat
    let n : Entry :=
      { handle := 0, item := item.toNat, value := min value (if item.toNat = 2 then 31 else 255) }
    let reply := if n.value = value then Reply.good [] else Reply.adjusted 0 2 []
    (item.toNat = 0 ∨ 3 < item.toNat →
      exec (.setTiming hi) s = .next (s.answered 0x30 (Reply.check .illegalRequest 3 0 1))) ∧
    (1 ≤ item.toNat → item.toNat ≤ 3 →
      (∀ q, s.aq.stage n = some q →
        exec (.setTiming hi) s = .next (({ s with aq := q } : State).answered 0x30 reply)) ∧
      (s.aq.stage n = none →
        exec (.setTiming hi) s = .next (s.answered 0x30 (Reply.check .resource 2 0 0))))) ∧
  (∀ (q : AmendmentQueue) (n : Entry),
    let same (e : Entry) : Prop := e.handle = n.handle ∧ e.item = n.item
    ((∃ e ∈ q.entries, same e) →
      ∃ entries, q.stage n = some { q with entries := entries } ∧ entries.length = q.entries.length ∧
        ∀ k : Nat, ∀ e, q.entries[k]? = some e →
          (same e → entries[k]? = some n) ∧ (¬same e → entries[k]? = some e)) ∧
    ((∀ e ∈ q.entries, ¬same e) →
      (q.entries.length < 32 → q.stage n = some { q with entries := q.entries ++ [n] }) ∧
      (32 ≤ q.entries.length → q.stage n = none)))

/-- The commit (07 R127 to R130): held or empty it changes nothing; otherwise every entry is applied in order, the queue
is left empty, and QUEUE DRAINED is raised when one was written. An entry of a FREE handle does nothing, one that is not
permitted raises DROPPED, and the others are written to the record, or to the STG under handle 0. -/
def Obligations.CommitAppliesTheEntriesInOrder : Prop :=
  ∀ s : State,
    (s.aq.held = true ∨ s.aq.entries = [] → s.commit = s) ∧
    (s.aq.held = false → s.aq.entries ≠ [] →
      let r := s.aq.entries.foldl applyEntry (s, false)
      let emptied : State := { r.1 with aq := { entries := [], held := false } }
      s.commit = if r.2 then emptied.raise .queueDrained else emptied) ∧
    (∀ (written : Bool) (e : Entry),
      (e.handle = 0 → e.item = 1 →
        applyEntry (s, written) e = ({ s with stg := { s.stg with hdelay := e.value } }, true)) ∧
      (e.handle = 0 → e.item = 2 →
        applyEntry (s, written) e = ({ s with stg := { s.stg with vdelay := e.value } }, true)) ∧
      (e.handle = 0 → e.item = 3 →
        applyEntry (s, written) e = ({ s with stg := { s.stg with hphase := e.value } }, true)) ∧
      (e.handle ≠ 0 → s.title e.handle = none → applyEntry (s, written) e = (s, written)) ∧
      (∀ t, e.handle ≠ 0 → s.title e.handle = some t →
        (t.permits e.item e.value = false → applyEntry (s, written) e = (s.notify e.handle .dropped, written)) ∧
        (t.permits e.item e.value = true →
          applyEntry (s, written) e =
            ({ s with titles := s.titles.set (e.handle - 1) (some (t.write s.settings.pixTotal e.item e.value)) },
              true)) ∧
        ((e.item = 12 ∨ e.item = 13) → t.phase ≠ .dormant → t.phase ≠ .armed → t.phase ≠ .showing .dwell →
          (∀ o, t.phase ≠ .done o) → t.permits e.item e.value = false) ∧
        (14 ≤ e.item → e.item ≤ 21 → t.motion = .none → t.permits e.item e.value = false)))

/-- What a commit writes to a record. Which items are permitted (07 R128): kind and approach by the phase, the approach
by the kind held, start condition and start field before the start only, the motion items and the reach where present,
every other item always. What a write leaves (07 R129): the placement with its dependent clamps (04 R59), the parts that
a kind or a start condition makes present or absent (04 R64), T by the phase after a course (06 R118), and the displayed
geometry computed again after each of them (04 R64), a fade keeping its level (06 R111, R116). That the timeline items,
22 to 28, are among these writes is read from 04 R64 alone (log 15). -/
def Obligations.CommittedItemsArePermittedAndWritten : Prop :=
  ∀ (t : Title) (pix item value : Nat),
    let p := t.phase
    let before : Prop := p = .dormant ∨ p = .armed
    let still : Prop := before ∨ p = .showing .dwell ∨ ∃ o, p = .done o
    let side : Prop := (∃ a r, t.motion = .wipe a r) ∨ ∃ a r n, t.motion = .slide a r n
    let rise : Prop := ∃ a r n, t.motion = .rise a r n
    let permitted : Prop :=
      match item with
      | 12 => still
      | 13 => still ∧ ((side ∧ value ≤ 1) ∨ (rise ∧ (value = 2 ∨ value = 3)))
      | 21 => (∃ a r n, t.motion = .slide a r n) ∨ rise
      | 22 => before
      | 23 => before ∧ ∃ n, t.start = .field n
      | i => 14 ≤ i → i ≤ 20 → t.motion ≠ .none
    let shown (u : Title) : Title :=
      { u with disp :=
          if p = .showing (.leaving .fade) ∨ p = .held (.leaving .fade) then
            { u.formula with level := t.disp.level }
          else u.formula }
    let placed (q : Placement) : Title := shown { t with place := q }
    let keyed (k : KeyPart) : Title := shown { t with key := k }
    let moving (m : Motion) : Title := shown { t with motion := m }
    let withRamp (r : Ramp) : Motion :=
      match t.motion with
      | .none => .none
      | .fade _ => .fade r
      | .wipe a _ => .wipe a r
      | .slide a _ reach => .slide a r reach
      | .rise a _ reach => .rise a r reach
    let q := t.place
    let k := t.key
    let fresh : Ramp :=
      { course := 0, startRate := 1, runRate := 1, accel := 1, decel := 1, rampDown := 0, creep := 0 }
    let ramp : Ramp := t.motion.ramp.getD fresh
    let u := t.write pix item value
    (t.permits item value = true ↔ permitted) ∧
    (item = 1 → u = placed { q with prio := value }) ∧
    (item = 2 → ∀ f, (value, f) ∈ [(0, FieldMask.both), (1, .a), (2, .b)] → u = placed { q with mask := f }) ∧
    (item = 3 ∨ item = 4 ∨ item = 5 ∨ item = 6 →
      let top := if item = 3 then value else q.top
      let left := min (if item = 5 then value else q.left) (pix - 1)
      u = placed
        { q with
          top := top
          height := min (if item = 4 then value else q.height) (313 - top)
          left := left
          width := min (if item = 6 then value else q.width) (pix - left) }) ∧
    (item = 7 → u = keyed { k with colour := BitVec.ofNat 4 value }) ∧
    (item = 8 → u = keyed { k with mask := BitVec.ofNat 4 value }) ∧
    (item = 9 → ∀ e, (value, e) ∈ [(0, KeySense.normal), (1, .inverse)] → u = keyed { k with sense := e }) ∧
    (item = 10 → u = keyed { k with bank := value }) ∧
    (item = 11 → u = keyed { k with level := value }) ∧
    (item = 12 →
      (value = 0 → u = shown { t with motion := .none, travel := 0, velocity := 0, creepLeft := 0 }) ∧
      (value = 1 → u = moving (.fade ramp)) ∧
      (∀ a, value = 2 ∨ value = 3 →
        ((∃ r, t.motion = .wipe a r) ∨ (∃ r n, t.motion = .slide a r n) ∨ (¬side ∧ a = .fromLeft)) →
        (value = 2 → u = moving (.wipe a ramp)) ∧
        (∀ n, value = 3 →
          ((∃ b r, t.motion = .slide b r n) ∨ (∃ b r, t.motion = .rise b r n) ∨
            ((∀ b r i, t.motion ≠ .slide b r i) ∧ ¬rise ∧ n = 0)) → u = moving (.slide a ramp n))) ∧
      (∀ a n, value = 4 →
        ((∃ r, t.motion = .rise a r n) ∨ (¬rise ∧ a = .fromBelow ∧
          ((∃ b r, t.motion = .slide b r n) ∨ ((∀ b r i, t.motion ≠ .slide b r i) ∧ n = 0)))) →
        u = moving (.rise a ramp n))) ∧
    (item = 13 →
      (∀ a b r, t.motion = .wipe b r → (value, a) ∈ [(0, SideApproach.fromLeft), (1, .fromRight)] →
        u = moving (.wipe a r)) ∧
      (∀ a b r n, t.motion = .slide b r n → (value, a) ∈ [(0, SideApproach.fromLeft), (1, .fromRight)] →
        u = moving (.slide a r n)) ∧
      (∀ a b r n, t.motion = .rise b r n → (value, a) ∈ [(2, VertApproach.fromAbove), (3, .fromBelow)] →
        u = moving (.rise a r n))) ∧
    (∀ r, t.motion.ramp = some r →
      (item = 14 →
        u = shown
          { t with
            motion := withRamp { r with course := value }
            travel :=
              if before then 0
              else if p = .showing .dwell ∨ p = .held .dwell then value
              else min t.travel value }) ∧
      (item = 15 → u = moving (withRamp { r with startRate := value })) ∧
      (item = 16 → u = moving (withRamp { r with runRate := value })) ∧
      (item = 17 → u = moving (withRamp { r with accel := value })) ∧
      (item = 18 → u = moving (withRamp { r with decel := value })) ∧
      (item = 19 → u = moving (withRamp { r with rampDown := value })) ∧
      (item = 20 → u = moving (withRamp { r with creep := value }))) ∧
    (item = 21 →
      (∀ a r n, t.motion = .slide a r n → u = moving (.slide a r value)) ∧
      (∀ a r n, t.motion = .rise a r n → u = moving (.rise a r value))) ∧
    (item = 22 →
      (value = 0 → u = shown { t with start := .command }) ∧
      (∀ n : Fin 4, value = n.val + 1 → u = shown { t with start := .cue n }) ∧
      (∀ n, value = 5 → t.start = .field n ∨ ((∀ i, t.start ≠ .field i) ∧ n = 0) →
        u = shown { t with start := .field n })) ∧
    (item = 23 → u = shown { t with start := .field value }) ∧
    (item = 24 → u = shown { t with dwell := value }) ∧
    (item = 25 →
      (value = 0 → u = shown { t with ending := .dwell }) ∧ (value = 5 → u = shown { t with ending := .command }) ∧
      ∀ n : Fin 4, value = n.val + 1 → u = shown { t with ending := .cue n }) ∧
    (item = 26 → ∀ e, (value, e) ∈ [(0, Exit.cut), (1, .fade), (2, .reverse)] → u = shown { t with exit := e }) ∧
    (item = 27 → u = shown { t with exitStep := value }) ∧
    (item = 28 → value ≤ 1 → u = shown { t with autoRetire := decide (value = 1) })

/-- HOLD and APPLY AMENDMENTS (07 R131), QUERY PENDING (07 R132) and DISCARD PENDING (07 R133). Handle 0 in the
condition record of a DISCARD PENDING refused for a handle of 25 to 254 is the model's choice (log 13), read from 11
R177. -/
def Obligations.QueueCommandsHoldReportAndDiscard : Prop :=
  ∀ s : State,
    (s.Performs →
      exec .holdAmendments s =
        .next (({ s.abandoning with aq := { s.aq with held := true } } : State).answered 0x31 (Reply.good [])) ∧
      exec .applyAmendments s =
        .next (({ s.abandoning with aq := { s.aq with held := false } } : State).answered 0x32 (Reply.good [])) ∧
      exec .queryPending s =
        .next (s.abandoning.answered 0x33
          (Reply.good (byteOf s.aq.entries.length :: (if s.aq.held then 1 else 0)
            :: s.aq.entries.flatMap fun e =>
              [byteOf e.handle, byteOf e.item, byteOf e.value, byteOf (e.value / 256)])))) ∧
    (∀ h : Byte, s.Awaits .discardPending [] →
      let kept := s.aq.entries.filter fun e => decide (h.toNat ≠ 255 ∧ e.handle ≠ h.toNat)
      (h.toNat ≤ 24 ∨ h.toNat = 255 →
        exec (.discardPending h) s =
          .next (({ s with aq := { s.aq with entries := kept } } : State).answered 0x34
            (Reply.good [byteOf (s.aq.entries.length - kept.length)]))) ∧
      (25 ≤ h.toNat → h.toNat ≤ 254 →
        exec (.discardPending h) s = .next (s.answered 0x34 (Reply.check .illegalRequest 2 0 0))))

/-! ### Motion ramps (06), settings and standby (10), cue line commands (09), reports (11, 02) -/

/-- One motion step: the deceleration test (06 R104), the velocity (06 R105), the move (06 R107), completion (06 R108),
creep (06 R106) and the geometry (06 R111); the stopping distance of AUTO (06 R103); and the displayed geometry of each
kind (06 R111 to R115). The test is also made in TURNING (log 12). -/
def Obligations.MotionStepFollowsTheRamp : Prop :=
  (∀ (r : Ramp) (side : SideApproach) (vert : VertApproach) (reach : Nat),
    Motion.ramp .none = none ∧ Motion.ramp (.fade r) = some r ∧ Motion.ramp (.wipe side r) = some r ∧
    Motion.ramp (.slide side r reach) = some r ∧ Motion.ramp (.rise vert r reach) = some r) ∧
  (∀ (t : Title) (r : Ramp), t.motion.ramp = some r → t.travel ≤ r.course →
    let back := t.phase = .showing (.leaving .reverse)
    let creeping := t.phase = .showing .entering ∧ 0 < t.creepLeft
    let left := if back then t.travel else r.course - t.travel
    let u := (motionStep t).title
    let run := max r.runRate r.startRate
    (creeping → u.velocity = r.startRate ∧ u.marks = t.marks) ∧
    (¬creeping →
      (u.marks.decel = true ↔
        t.marks.decel = true ∨ left ≤ if r.rampDown = 0 then r.stopping t.velocity else r.rampDown) ∧
      u.marks.go = t.marks.go ∧ u.marks.endMark = t.marks.endMark ∧
      (u.marks.decel = true ∨ t.phase = .showing .turning → u.velocity = max r.startRate (t.velocity - r.decel)) ∧
      (u.marks.decel = false → t.phase ≠ .showing .turning →
        (t.velocity < run → t.velocity = 0 → u.velocity = r.startRate) ∧
        (t.velocity < run → t.velocity ≠ 0 → u.velocity = min run (max r.startRate (t.velocity + r.accel))) ∧
        (t.velocity = run → u.velocity = run) ∧
        (run < t.velocity → u.velocity = max run (t.velocity - r.decel)))) ∧
    (back → u.travel = t.travel - min u.velocity t.travel) ∧
    (¬back → u.travel = t.travel + min u.velocity (r.course - t.travel)) ∧
    u.travel ≤ r.course ∧
    ((motionStep t).complete = true ↔ left ≤ u.velocity) ∧
    ((motionStep t).atStartRate = true ↔ u.velocity = r.startRate) ∧
    u.creepLeft = (if left ≤ u.velocity then 0 else if creeping then t.creepLeft - 1 else t.creepLeft) ∧
    (t.phase ≠ .showing (.leaving .fade) → t.phase ≠ .held (.leaving .fade) → u.disp = u.formula) ∧
    u.phase = t.phase ∧ u.place = t.place ∧ u.motion = t.motion ∧ u.dwellLeft = t.dwellLeft ∧
    u.turnPause = t.turnPause) ∧
  (∀ (r : Ramp) (v : Nat), 1 ≤ r.decel →
    r.stopping v =
      if v ≤ r.startRate then 0 else max r.startRate (v - r.decel) + r.stopping (v - r.decel)) ∧
  ∀ t : Title,
    let own : Display :=
      { top := t.place.top, left := t.place.left, width := t.place.width, level := t.key.level }
    let part (full course : Nat) : Nat := if course = 0 then full else full * t.travel / course
    let off (reach course : Nat) : Nat := if course = 0 then 0 else reach * (course - t.travel) / course
    (t.motion = .none → t.formula = own) ∧
    (∀ r, t.motion = .fade r → t.formula = { own with level := part t.key.level r.course }) ∧
    (∀ r, t.motion = .wipe .fromLeft r → t.formula = { own with width := part t.place.width r.course }) ∧
    (∀ r, t.motion = .wipe .fromRight r →
      t.formula =
        { own with
          width := part t.place.width r.course
          left := (t.place.left : Int) + t.place.width - (part t.place.width r.course : Nat) }) ∧
    (∀ r reach, t.motion = .slide .fromLeft r reach →
      t.formula = { own with left := (t.place.left : Int) - (off reach r.course : Nat) }) ∧
    (∀ r reach, t.motion = .slide .fromRight r reach →
      t.formula = { own with left := (t.place.left : Int) + (off reach r.course : Nat) }) ∧
    (∀ r reach, t.motion = .rise .fromBelow r reach →
      t.formula = { own with top := (t.place.top : Int) + (off reach r.course : Nat) }) ∧
    (∀ r reach, t.motion = .rise .fromAbove r reach →
      t.formula = { own with top := (t.place.top : Int) - (off reach r.course : Nat) })

/-- SET MODE and the ranges of its settings (10 R166, R167, 01 R16, 02 R33), REPORT MODE and the value of each of its
items (10 R168), and SET EVENTS (10 R169). -/
def Obligations.SettingsAreCheckedClampedWrittenAndReported : Prop :=
  (∀ (s : State) (item lo hi : Byte), s.Awaits .setMode [item, lo] →
    let value := lo.toNat + 256 * hi.toNat
    let v : Nat :=
      match item.toNat with
      | 3 => within 256 1024 value
      | 4 => within 4 39 value
      | 5 => within 1536 2559 value
      | 6 => within 0 6 value
      | 7 => within 4 10 value
      | 8 => within 8 200 value
      | 9 => within 1 63 value
      | 10 => within 1 15 value
      | 11 => within 1 255 value
      | 12 => within 0 63 value
      | 13 => within 0 15 value
      | _ => value
    (item.toNat = 0 ∨ 13 < item.toNat →
      exec (.setMode hi) s = .next (s.answered 0x40 (Reply.check .illegalRequest 3 0 1))) ∧
    ((item.toNat = 1 ∧ 3 ≤ value) ∨ (item.toNat = 2 ∧ 2 ≤ value) →
      exec (.setMode hi) s = .next (s.answered 0x40 (Reply.check .illegalRequest 4 0 2))) ∧
    (1 ≤ item.toNat → item.toNat ≤ 13 → (item.toNat = 1 → value ≤ 2) → (item.toNat = 2 → value ≤ 1) →
      (item.toNat ≤ 5 → s.lle.lock ≠ .standby →
        exec (.setMode hi) s = .next (s.answered 0x40 (Reply.check .notInStandby s.lle.lock.code 0 0))) ∧
      ((item.toNat ≤ 5 → s.lle.lock = .standby) →
        let t := s.writeSetting item.toNat v
        exec (.setMode hi) s =
          .next (t.answered 0x40 (if v = value then Reply.good [] else Reply.adjusted 0 2 [])) ∧
        t.settingOf item.toNat = v ∧
        (∀ j, 1 ≤ j → j ≤ 17 → j ≠ item.toNat → t.settingOf j = s.settingOf j) ∧
        t = { s with settings := t.settings, sq := t.sq, lle := t.lle } ∧
        (item.toNat ≠ 1 ∨ v = s.settings.standard.code → t.sq = s.sq) ∧
        (item.toNat = 1 → v ≠ s.settings.standard.code →
          t.sq = { s.sq with
            classes := []
            standard := if v = 1 then .s625 else if v = 2 then .s525 else s.sq.standard }) ∧
        (item.toNat = 5 → t.lle = if v = s.settings.hspan then s.lle else { s.lle with period := v * 256 }) ∧
        (item.toNat = 10 → t.lle = { s.lle with missCount := min s.lle.missCount (v - 1) }) ∧
        (item.toNat = 11 → t.lle = { s.lle with holdCount := min s.lle.holdCount v }) ∧
        (item.toNat ≠ 5 → item.toNat ≠ 10 → item.toNat ≠ 11 → t.lle = s.lle)))) ∧
  (∀ (s : State) (item : Byte), s.Awaits .reportMode [] →
    (item.toNat = 0 ∨ 17 < item.toNat →
      exec (.reportMode item) s = .next (s.answered 0x41 (Reply.check .illegalRequest 3 0 1))) ∧
    (1 ≤ item.toNat → item.toNat ≤ 17 →
      exec (.reportMode item) s =
        .next (s.answered 0x41
          (Reply.good [byteOf (s.settingOf item.toNat), byteOf (s.settingOf item.toNat / 256)])))) ∧
  (∀ s : State,
    let g := s.settings
    s.settingOf 1 =
      (match g.standard with
      | .auto => 0
      | .force625 => 1
      | .force525 => 2) ∧
    s.settingOf 2 =
      (match g.reference with
      | .lock => 0
      | .internal => 1) ∧
    s.settingOf 3 = g.pixTotal ∧ s.settingOf 4 = g.filter ∧ s.settingOf 5 = g.hspan ∧ s.settingOf 6 = g.kp ∧
    s.settingOf 7 = g.kf ∧ s.settingOf 8 = g.gate ∧ s.settingOf 9 = g.window ∧ s.settingOf 10 = g.slipLimit ∧
    s.settingOf 11 = g.holdLimit ∧ s.settingOf 12 = g.masterLevel ∧ s.settingOf 13 = g.cpixLat ∧
    s.settingOf 14 = s.cpr.enables.toNat ∧ s.settingOf 15 = s.stg.hdelay ∧ s.settingOf 16 = s.stg.vdelay ∧
    s.settingOf 17 = s.stg.hphase) ∧
  (∀ (s : State) (lo hi : Byte), s.Awaits .setEvents [lo] →
    (hi.toNat < 16 →
      exec (.setEvents hi) s =
        .next (({ s with cpr := { s.cpr with
          enables := hi ++ lo, events := s.cpr.events &&& (hi ++ lo) } } : State).answered 0x42 (Reply.good []))) ∧
    (16 ≤ hi.toNat →
      exec (.setEvents hi) s = .next (s.answered 0x42 (Reply.check .illegalRequest 4 0 2))))

/-- ENTER STANDBY (10 R163, 02 R31): timing work ends, P becomes HSPAN × 256, and a line whose edge the counter has
already reached is decided at the command (log 19). LEAVE STANDBY (10 R164, 02 R32). Each is refused in the other's
states. -/
def Obligations.StandbyIsEnteredAndLeft : Prop :=
  ∀ s : State, s.Performs →
    (s.lle.lock = .standby →
      exec .enterStandby s = .next (s.abandoning.answered 0x43 (Reply.check .wrongState 0 0 0)) ∧
      exec .leaveStandby s =
        .next (({ s.abandoning with lle := { s.lle with
          lock := .freeRun, period := s.settings.hspan * 256, edgeSet := [] } } : State).answered 0x44
            (Reply.good []))) ∧
    (s.lle.lock ≠ .standby →
      exec .leaveStandby s =
        .next (s.abandoning.answered 0x44 (Reply.check .wrongState s.lle.lock.code 0 0)) ∧
      let l : LineLock :=
        { s.lle with
          lock := .standby, period := s.settings.hspan * 256, missCount := 0, holdCount := 0, goodCount := 0
          gateOpen := false, gateEdge := none, edgeSet := [], lastError := none, realign := 0
          fieldLines := nominalLength s.sq.standard s.sq.parity }
      (reached s.sq.counter (wholePart s.lle.edge) = false →
        exec .enterStandby s =
          .next (({ s.abandoning with lle := l } : State).answered 0x43 (Reply.good []))) ∧
      (reached s.sq.counter (wholePart s.lle.edge) = true →
        exec .enterStandby s =
          .next (({ s.abandoning with lle := { l with
            scheduled := some (lineStartReading s.lle.edge)
            edge := s.lle.edge + BitVec.ofNat 32 (s.settings.hspan * 256) } } : State).answered 0x43
              (Reply.good []))))

/-- SET CUE LINE (09 R159): its checks in order, a changed role takes the level again from scratch (09 R160), and a line
that keeps its role keeps its level. REPORT CUE LINES (09 R161). -/
def Obligations.CueLineRolesAreSetAndReported : Prop :=
  ∀ s : State,
    (∀ line role h : Byte, s.Awaits .setCueLine [line, role] →
      (4 ≤ line.toNat → exec (.setCueLine h) s = .next (s.answered 0x50 (Reply.check .illegalRequest 4 0 1))) ∧
      (∀ n : Fin 4, line.toNat = n.val →
        (2 ≤ role.toNat → exec (.setCueLine h) s = .next (s.answered 0x50 (Reply.check .illegalRequest 4 0 2))) ∧
        (role = 1 → s.title h.toNat = none →
          exec (.setCueLine h) s = .next (s.answered 0x50 (Reply.check .illegalRequest 2 h.toNat 0))) ∧
        (role = 0 → (s.clu.get n).role = .input → exec (.setCueLine h) s = .next (s.answered 0x50 (Reply.good []))) ∧
        (∀ g, role = 0 → (s.clu.get n).role = .tally g →
          exec (.setCueLine h) s =
            .next (({ s with clu := s.clu.put n { role := .input, previous := none, qualified := .unknown } } :
              State).answered 0x50 (Reply.good []))) ∧
        (role = 1 → s.title h.toNat ≠ none →
          ((s.clu.get n).role = .input →
            exec (.setCueLine h) s =
              .next (({ s with
                clu := s.clu.put n { role := .tally h.toNat, previous := none, qualified := .unknown } } :
                  State).answered 0x50 (Reply.good []))) ∧
          (∀ g, (s.clu.get n).role = .tally g →
            exec (.setCueLine h) s =
              .next (({ s with clu := s.clu.put n { s.clu.get n with role := .tally h.toNat } } : State).answered
                0x50 (Reply.good [])))))) ∧
    (s.Performs →
      let bytes (l : CueLine) : List Byte :=
        [if l.role = .input then 0 else 1,
         match l.role with
         | .input => 0
         | .tally h => byteOf h,
         if l.qualified = .low then 0 else if l.qualified = .high then 1 else 2]
      exec .reportCueLines s =
        .next (s.abandoning.answered 0x51
          (Reply.good (bytes s.clu.c0 ++ bytes s.clu.c1 ++ bytes s.clu.c2 ++ bytes s.clu.c3))))

/-- The codes by number: completions (11 R176), keys of the condition record (11, "The condition record"), attention
reasons and event sets (11, "Sets"), lock states (10, "The STANDBY state"), and what a GOOD, an ADJUSTED and a CHECK
answer carry (11 R175, R177). REPORT CONDITION, performed while attention is pending too, with the record kept (11
R178); REPORT LOCK and its run (02 R42; 11, "REPORT LOCK result"; y in 16 bits, log 14); READ EVENTS (11 R183); READ
NOTICES (11 R184). -/
def Obligations.ReportsReadTheConditionLockEventsAndNotices : Prop :=
  (Completion.code .good = 0x00 ∧ Completion.code .adjusted = 0x01 ∧ Completion.code .check = 0x02 ∧
    Completion.code .attention = 0x04 ∧
    ConditionKey.code .none = 0 ∧ ConditionKey.code .adjusted = 1 ∧ ConditionKey.code .illegalRequest = 2 ∧
    ConditionKey.code .wrongPhase = 3 ∧ ConditionKey.code .resource = 4 ∧ ConditionKey.code .notInStandby = 5 ∧
    ConditionKey.code .wrongState = 6 ∧ ConditionKey.code .attention = 7 ∧
    LockState.code .standby = 0 ∧ LockState.code .freeRun = 1 ∧ LockState.code .acquiring = 2 ∧
    LockState.code .locked = 3 ∧ LockState.code .flywheel = 4) ∧
  (∀ (data : List Byte) (key : ConditionKey) (code handle param : Nat),
    Reply.good data = ⟨.good, .none, 0, 0, 0, data⟩ ∧
    Reply.adjusted handle param data = ⟨.adjusted, .adjusted, 0, handle, param, data⟩ ∧
    Reply.check key code handle param = ⟨.check, key, code, handle, param, []⟩) ∧
  (∀ a b : Attention,
    a.code = (if a.powerOn then 1 else 0) + (if a.pinReset then 2 else 0) + (if a.standardChanged then 4 else 0) ∧
    a.union b = ⟨a.powerOn || b.powerOn, a.pinReset || b.pinReset, a.standardChanged || b.standardChanged⟩) ∧
  (∀ (e : EventSet) (k : EventKind),
    let bit : Nat :=
      match k with
      | .lockGained => 0
      | .lockLost => 1
      | .slip => 2
      | .standardChanged => 3
      | .fieldIrregular => 4
      | .spanOverflow => 5
      | .queueDrained => 6
      | .titleActivity => 7
      | .cue n => 8 + n.val
    e.has k = e.getLsbD bit ∧
    ∀ j < 16,
      (e.with k).getLsbD j = (e.getLsbD j || decide (j = bit)) ∧
      (e.without k).getLsbD j = (e.getLsbD j && decide (j ≠ bit))) ∧
  ∀ s : State,
    (∀ n : Byte, s.pins.resetLow = false → s.Collects .reportCondition [] →
      let c := s.cpr.condition
      let record : List Byte :=
        [c.completion.code, byteOf c.key.code, byteOf c.code, byteOf c.handle, byteOf c.param,
         byteOf ((c.reasons.union s.cpr.attention).code), c.lastCommand, byteOf c.fieldCounter.toNat,
         byteOf (c.fieldCounter.toNat / 256), byteOf c.occupancy]
      exec (.reportCondition n) s =
        .next { s with
          cpr := { s.cpr with
            collecting := none
            results := 0 :: record.take (if n.toNat ≤ 4 then 4 else min n.toNat 10) }
          lle := { s.lle with reportRun := false } }) ∧
    (s.Performs →
      let l := s.lle
      let word (n : Nat) : List Byte := [byteOf n, byteOf (n / 256)]
      let triple (n : Nat) : List Byte := [byteOf n, byteOf (n / 256), byteOf (n / 65536)]
      let lock : Byte :=
        match l.lock with
        | .standby => 0
        | .freeRun => 1
        | .acquiring => 2
        | .locked => 3
        | .flywheel => 4
      let bytes : List Byte :=
        [lock, if s.sq.standard = .s625 then 1 else 2, if s.sq.parity = .a then 0 else 1, if l.paritySure then 0 else 1]
          ++ triple l.period ++ triple (BitVec.ofInt 24 (l.lastError.getD 0)).toNat ++ word l.flywheelLines
          ++ [byteOf l.slips, byteOf l.verticalMisses, byteOf l.irregularFields] ++ word l.fieldCounter.toNat
          ++ word l.y
      exec .reportLock s =
        .next { State.answered s.abandoning 0x61 (Reply.good bytes) with
          lle := if l.reportRun then l
            else { l with
              flywheelLines := 0, slips := 0, verticalMisses := 0, irregularFields := 0, reportRun := true } }) ∧
    (s.Performs →
      exec .readEvents s =
        .next (({ s.abandoning with cpr := { s.abandoning.cpr with
          events := if s.noNotices then 0 else s.cpr.events &&& 0x80 } } : State).answered 0x62
            (Reply.good [byteOf s.cpr.events.toNat, byteOf (s.cpr.events.toNat / 256)]))) ∧
    (s.Performs →
      let noticed := (List.range' 1 24).filter fun h => decide (s.noticeSet h ≠ NoticeSet.empty)
      exec .readNotices s =
        .next (({ s.abandoning with cpr := { s.abandoning.cpr with
          notices := List.replicate s.cpr.notices.length NoticeSet.empty
          events := s.cpr.events.without .titleActivity } } : State).answered 0x63
            (Reply.good (byteOf noticed.length :: noticed.flatMap fun h => [byteOf h, byteOf (s.noticeSet h).code]))))

/-! ### Invariants -/

/-- Every step keeps the events and the notices in order: an event kind is pending only while its enable is set (11
R182), TITLE ACTIVITY is pending only while the notice store holds a notice (11 R184), and there are 24 records and 24
notice sets (04 R57). -/
def Obligations.EveryStepKeepsEventsAdmitted : Prop :=
  ∀ s t : State, s.EventsAdmitted → step s = .next t → t.EventsAdmitted

/-- Every step keeps at most 32 entries in the queue, no two of one handle and item (07 R121), P and HSPAN in their
ranges (02 R20, 10 R166), and at most 8 spans in the waiting and in the keying list (08 R138). -/
def Obligations.EveryStepKeepsTheQueueThePeriodAndTheSpans : Prop :=
  ∀ s t : State, step s = .next t →
    (s.QueueWithinLimits → t.QueueWithinLimits) ∧ (s.PeriodWithinRange → t.PeriodWithinRange) ∧
    (s.SpansWithinLimits → t.SpansWithinLimits)

/-- Every step keeps the travel of every title between 0 and its course (06 R107), through motion, amendments of the
course and the kind, and reversals. -/
def Obligations.EveryStepKeepsTravelWithinTheCourse : Prop :=
  ∀ s t : State, s.TravelWithinCourse → step s = .next t → t.TravelWithinCourse

/-- The part right after power-on meets every invariant. -/
def Obligations.ResetMeetsTheInvariants : Prop :=
  State.reset.EventsAdmitted ∧ State.reset.QueueWithinLimits ∧ State.reset.TravelWithinCourse ∧
  State.reset.PeriodWithinRange ∧ State.reset.SpansWithinLimits
end

