-- ==== Sys2Proof/Laws/State.lean ====
section
/-! SUPPORT. The fields that each named update of the state leaves as they are, one lemma a field. -/

namespace Sys2Proof.Machine

open Sys2Proof

/-! `State.raise` -/

@[simp] theorem State.raise_sq (s : State) (k : EventKind) :
    (s.raise k).sq = s.sq :=
  rfl

@[simp] theorem State.raise_lle (s : State) (k : EventKind) :
    (s.raise k).lle = s.lle :=
  rfl

@[simp] theorem State.raise_stg (s : State) (k : EventKind) :
    (s.raise k).stg = s.stg :=
  rfl

@[simp] theorem State.raise_titles (s : State) (k : EventKind) :
    (s.raise k).titles = s.titles :=
  rfl

@[simp] theorem State.raise_aq (s : State) (k : EventKind) :
    (s.raise k).aq = s.aq :=
  rfl

@[simp] theorem State.raise_sbk (s : State) (k : EventKind) :
    (s.raise k).sbk = s.sbk :=
  rfl

@[simp] theorem State.raise_op (s : State) (k : EventKind) :
    (s.raise k).op = s.op :=
  rfl

@[simp] theorem State.raise_clu (s : State) (k : EventKind) :
    (s.raise k).clu = s.clu :=
  rfl

@[simp] theorem State.raise_settings (s : State) (k : EventKind) :
    (s.raise k).settings = s.settings :=
  rfl

@[simp] theorem State.raise_pins (s : State) (k : EventKind) :
    (s.raise k).pins = s.pins :=
  rfl

@[simp] theorem State.raise_freeIndex (s : State) (k : EventKind) :
    (s.raise k).freeIndex = s.freeIndex :=
  rfl

@[simp] theorem State.raise_pending (s : State) (k : EventKind) :
    (s.raise k).pending = s.pending :=
  rfl

/-! `State.setTitle` -/

@[simp] theorem State.setTitle_sq (s : State) (h : Nat) (t : Option Title) :
    (s.setTitle h t).sq = s.sq := by
  unfold State.setTitle
  split <;> rfl

@[simp] theorem State.setTitle_lle (s : State) (h : Nat) (t : Option Title) :
    (s.setTitle h t).lle = s.lle := by
  unfold State.setTitle
  split <;> rfl

@[simp] theorem State.setTitle_stg (s : State) (h : Nat) (t : Option Title) :
    (s.setTitle h t).stg = s.stg := by
  unfold State.setTitle
  split <;> rfl

@[simp] theorem State.setTitle_aq (s : State) (h : Nat) (t : Option Title) :
    (s.setTitle h t).aq = s.aq := by
  unfold State.setTitle
  split <;> rfl

@[simp] theorem State.setTitle_sbk (s : State) (h : Nat) (t : Option Title) :
    (s.setTitle h t).sbk = s.sbk := by
  unfold State.setTitle
  split <;> rfl

@[simp] theorem State.setTitle_op (s : State) (h : Nat) (t : Option Title) :
    (s.setTitle h t).op = s.op := by
  unfold State.setTitle
  split <;> rfl

@[simp] theorem State.setTitle_clu (s : State) (h : Nat) (t : Option Title) :
    (s.setTitle h t).clu = s.clu := by
  unfold State.setTitle
  split <;> rfl

@[simp] theorem State.setTitle_cpr (s : State) (h : Nat) (t : Option Title) :
    (s.setTitle h t).cpr = s.cpr := by
  unfold State.setTitle
  split <;> rfl

@[simp] theorem State.setTitle_settings (s : State) (h : Nat) (t : Option Title) :
    (s.setTitle h t).settings = s.settings := by
  unfold State.setTitle
  split <;> rfl

@[simp] theorem State.setTitle_pins (s : State) (h : Nat) (t : Option Title) :
    (s.setTitle h t).pins = s.pins := by
  unfold State.setTitle
  split <;> rfl

@[simp] theorem State.setTitle_freeIndex (s : State) (h : Nat) (t : Option Title) :
    (s.setTitle h t).freeIndex = s.freeIndex := by
  unfold State.setTitle
  split <;> rfl

@[simp] theorem State.setTitle_pending (s : State) (h : Nat) (t : Option Title) :
    (s.setTitle h t).pending = s.pending := by
  unfold State.setTitle
  split <;> rfl

/-! `State.setNotices` -/

@[simp] theorem State.setNotices_sq (s : State) (h : Nat) (n : NoticeSet) :
    (s.setNotices h n).sq = s.sq := by
  unfold State.setNotices
  split <;> rfl

@[simp] theorem State.setNotices_lle (s : State) (h : Nat) (n : NoticeSet) :
    (s.setNotices h n).lle = s.lle := by
  unfold State.setNotices
  split <;> rfl

@[simp] theorem State.setNotices_stg (s : State) (h : Nat) (n : NoticeSet) :
    (s.setNotices h n).stg = s.stg := by
  unfold State.setNotices
  split <;> rfl

@[simp] theorem State.setNotices_titles (s : State) (h : Nat) (n : NoticeSet) :
    (s.setNotices h n).titles = s.titles := by
  unfold State.setNotices
  split <;> rfl

@[simp] theorem State.setNotices_aq (s : State) (h : Nat) (n : NoticeSet) :
    (s.setNotices h n).aq = s.aq := by
  unfold State.setNotices
  split <;> rfl

@[simp] theorem State.setNotices_sbk (s : State) (h : Nat) (n : NoticeSet) :
    (s.setNotices h n).sbk = s.sbk := by
  unfold State.setNotices
  split <;> rfl

@[simp] theorem State.setNotices_op (s : State) (h : Nat) (n : NoticeSet) :
    (s.setNotices h n).op = s.op := by
  unfold State.setNotices
  split <;> rfl

@[simp] theorem State.setNotices_clu (s : State) (h : Nat) (n : NoticeSet) :
    (s.setNotices h n).clu = s.clu := by
  unfold State.setNotices
  split <;> rfl

@[simp] theorem State.setNotices_settings (s : State) (h : Nat) (n : NoticeSet) :
    (s.setNotices h n).settings = s.settings := by
  unfold State.setNotices
  split <;> rfl

@[simp] theorem State.setNotices_pins (s : State) (h : Nat) (n : NoticeSet) :
    (s.setNotices h n).pins = s.pins := by
  unfold State.setNotices
  split <;> rfl

@[simp] theorem State.setNotices_freeIndex (s : State) (h : Nat) (n : NoticeSet) :
    (s.setNotices h n).freeIndex = s.freeIndex := by
  unfold State.setNotices
  split <;> rfl

@[simp] theorem State.setNotices_pending (s : State) (h : Nat) (n : NoticeSet) :
    (s.setNotices h n).pending = s.pending := by
  unfold State.setNotices
  split <;> rfl

/-! `State.settleActivity` -/

@[simp] theorem State.settleActivity_sq (s : State) :
    (s.settleActivity).sq = s.sq := by
  unfold State.settleActivity
  split <;> rfl

@[simp] theorem State.settleActivity_lle (s : State) :
    (s.settleActivity).lle = s.lle := by
  unfold State.settleActivity
  split <;> rfl

@[simp] theorem State.settleActivity_stg (s : State) :
    (s.settleActivity).stg = s.stg := by
  unfold State.settleActivity
  split <;> rfl

@[simp] theorem State.settleActivity_titles (s : State) :
    (s.settleActivity).titles = s.titles := by
  unfold State.settleActivity
  split <;> rfl

@[simp] theorem State.settleActivity_aq (s : State) :
    (s.settleActivity).aq = s.aq := by
  unfold State.settleActivity
  split <;> rfl

@[simp] theorem State.settleActivity_sbk (s : State) :
    (s.settleActivity).sbk = s.sbk := by
  unfold State.settleActivity
  split <;> rfl

@[simp] theorem State.settleActivity_op (s : State) :
    (s.settleActivity).op = s.op := by
  unfold State.settleActivity
  split <;> rfl

@[simp] theorem State.settleActivity_clu (s : State) :
    (s.settleActivity).clu = s.clu := by
  unfold State.settleActivity
  split <;> rfl

@[simp] theorem State.settleActivity_settings (s : State) :
    (s.settleActivity).settings = s.settings := by
  unfold State.settleActivity
  split <;> rfl

@[simp] theorem State.settleActivity_pins (s : State) :
    (s.settleActivity).pins = s.pins := by
  unfold State.settleActivity
  split <;> rfl

@[simp] theorem State.settleActivity_freeIndex (s : State) :
    (s.settleActivity).freeIndex = s.freeIndex := by
  unfold State.settleActivity
  split <;> rfl

@[simp] theorem State.settleActivity_pending (s : State) :
    (s.settleActivity).pending = s.pending := by
  unfold State.settleActivity
  split <;> rfl

/-! `State.clearAllNotices` -/

@[simp] theorem State.clearAllNotices_sq (s : State) :
    (s.clearAllNotices).sq = s.sq :=
  rfl

@[simp] theorem State.clearAllNotices_lle (s : State) :
    (s.clearAllNotices).lle = s.lle :=
  rfl

@[simp] theorem State.clearAllNotices_stg (s : State) :
    (s.clearAllNotices).stg = s.stg :=
  rfl

@[simp] theorem State.clearAllNotices_titles (s : State) :
    (s.clearAllNotices).titles = s.titles :=
  rfl

@[simp] theorem State.clearAllNotices_aq (s : State) :
    (s.clearAllNotices).aq = s.aq :=
  rfl

@[simp] theorem State.clearAllNotices_sbk (s : State) :
    (s.clearAllNotices).sbk = s.sbk :=
  rfl

@[simp] theorem State.clearAllNotices_op (s : State) :
    (s.clearAllNotices).op = s.op :=
  rfl

@[simp] theorem State.clearAllNotices_clu (s : State) :
    (s.clearAllNotices).clu = s.clu :=
  rfl

@[simp] theorem State.clearAllNotices_settings (s : State) :
    (s.clearAllNotices).settings = s.settings :=
  rfl

@[simp] theorem State.clearAllNotices_pins (s : State) :
    (s.clearAllNotices).pins = s.pins :=
  rfl

@[simp] theorem State.clearAllNotices_freeIndex (s : State) :
    (s.clearAllNotices).freeIndex = s.freeIndex :=
  rfl

@[simp] theorem State.clearAllNotices_pending (s : State) :
    (s.clearAllNotices).pending = s.pending :=
  rfl

/-! `State.notify` -/

@[simp] theorem State.notify_sq (s : State) (h : Nat) (n : Notice) :
    (s.notify h n).sq = s.sq := by
  simp [State.notify]

@[simp] theorem State.notify_lle (s : State) (h : Nat) (n : Notice) :
    (s.notify h n).lle = s.lle := by
  simp [State.notify]

@[simp] theorem State.notify_stg (s : State) (h : Nat) (n : Notice) :
    (s.notify h n).stg = s.stg := by
  simp [State.notify]

@[simp] theorem State.notify_titles (s : State) (h : Nat) (n : Notice) :
    (s.notify h n).titles = s.titles := by
  simp [State.notify]

@[simp] theorem State.notify_aq (s : State) (h : Nat) (n : Notice) :
    (s.notify h n).aq = s.aq := by
  simp [State.notify]

@[simp] theorem State.notify_sbk (s : State) (h : Nat) (n : Notice) :
    (s.notify h n).sbk = s.sbk := by
  simp [State.notify]

@[simp] theorem State.notify_op (s : State) (h : Nat) (n : Notice) :
    (s.notify h n).op = s.op := by
  simp [State.notify]

@[simp] theorem State.notify_clu (s : State) (h : Nat) (n : Notice) :
    (s.notify h n).clu = s.clu := by
  simp [State.notify]

@[simp] theorem State.notify_settings (s : State) (h : Nat) (n : Notice) :
    (s.notify h n).settings = s.settings := by
  simp [State.notify]

@[simp] theorem State.notify_pins (s : State) (h : Nat) (n : Notice) :
    (s.notify h n).pins = s.pins := by
  simp [State.notify]

@[simp] theorem State.notify_freeIndex (s : State) (h : Nat) (n : Notice) :
    (s.notify h n).freeIndex = s.freeIndex := by
  simp [State.notify]

@[simp] theorem State.notify_pending (s : State) (h : Nat) (n : Notice) :
    (s.notify h n).pending = s.pending := by
  simp [State.notify]

/-! `State.clearNotices` -/

@[simp] theorem State.clearNotices_sq (s : State) (h : Nat) :
    (s.clearNotices h).sq = s.sq := by
  simp [State.clearNotices]

@[simp] theorem State.clearNotices_lle (s : State) (h : Nat) :
    (s.clearNotices h).lle = s.lle := by
  simp [State.clearNotices]

@[simp] theorem State.clearNotices_stg (s : State) (h : Nat) :
    (s.clearNotices h).stg = s.stg := by
  simp [State.clearNotices]

@[simp] theorem State.clearNotices_titles (s : State) (h : Nat) :
    (s.clearNotices h).titles = s.titles := by
  simp [State.clearNotices]

@[simp] theorem State.clearNotices_aq (s : State) (h : Nat) :
    (s.clearNotices h).aq = s.aq := by
  simp [State.clearNotices]

@[simp] theorem State.clearNotices_sbk (s : State) (h : Nat) :
    (s.clearNotices h).sbk = s.sbk := by
  simp [State.clearNotices]

@[simp] theorem State.clearNotices_op (s : State) (h : Nat) :
    (s.clearNotices h).op = s.op := by
  simp [State.clearNotices]

@[simp] theorem State.clearNotices_clu (s : State) (h : Nat) :
    (s.clearNotices h).clu = s.clu := by
  simp [State.clearNotices]

@[simp] theorem State.clearNotices_settings (s : State) (h : Nat) :
    (s.clearNotices h).settings = s.settings := by
  simp [State.clearNotices]

@[simp] theorem State.clearNotices_pins (s : State) (h : Nat) :
    (s.clearNotices h).pins = s.pins := by
  simp [State.clearNotices]

@[simp] theorem State.clearNotices_freeIndex (s : State) (h : Nat) :
    (s.clearNotices h).freeIndex = s.freeIndex := by
  simp [State.clearNotices]

@[simp] theorem State.clearNotices_pending (s : State) (h : Nat) :
    (s.clearNotices h).pending = s.pending := by
  simp [State.clearNotices]

/-! `State.freeRecord` -/

@[simp] theorem State.freeRecord_sq (s : State) (h : Nat) :
    (s.freeRecord h).sq = s.sq := by
  simp [State.freeRecord]

@[simp] theorem State.freeRecord_lle (s : State) (h : Nat) :
    (s.freeRecord h).lle = s.lle := by
  simp [State.freeRecord]

@[simp] theorem State.freeRecord_stg (s : State) (h : Nat) :
    (s.freeRecord h).stg = s.stg := by
  simp [State.freeRecord]

@[simp] theorem State.freeRecord_sbk (s : State) (h : Nat) :
    (s.freeRecord h).sbk = s.sbk := by
  simp [State.freeRecord]

@[simp] theorem State.freeRecord_op (s : State) (h : Nat) :
    (s.freeRecord h).op = s.op := by
  simp [State.freeRecord]

@[simp] theorem State.freeRecord_cpr (s : State) (h : Nat) :
    (s.freeRecord h).cpr = s.cpr := by
  simp [State.freeRecord]

@[simp] theorem State.freeRecord_settings (s : State) (h : Nat) :
    (s.freeRecord h).settings = s.settings := by
  simp [State.freeRecord]

@[simp] theorem State.freeRecord_pins (s : State) (h : Nat) :
    (s.freeRecord h).pins = s.pins := by
  simp [State.freeRecord]

@[simp] theorem State.freeRecord_freeIndex (s : State) (h : Nat) :
    (s.freeRecord h).freeIndex = s.freeIndex := by
  simp [State.freeRecord]

@[simp] theorem State.freeRecord_pending (s : State) (h : Nat) :
    (s.freeRecord h).pending = s.pending := by
  simp [State.freeRecord]

/-! `State.freeAndForget` -/

@[simp] theorem State.freeAndForget_sq (s : State) (h : Nat) :
    (s.freeAndForget h).sq = s.sq := by
  simp [State.freeAndForget]

@[simp] theorem State.freeAndForget_lle (s : State) (h : Nat) :
    (s.freeAndForget h).lle = s.lle := by
  simp [State.freeAndForget]

@[simp] theorem State.freeAndForget_stg (s : State) (h : Nat) :
    (s.freeAndForget h).stg = s.stg := by
  simp [State.freeAndForget]

@[simp] theorem State.freeAndForget_sbk (s : State) (h : Nat) :
    (s.freeAndForget h).sbk = s.sbk := by
  simp [State.freeAndForget]

@[simp] theorem State.freeAndForget_op (s : State) (h : Nat) :
    (s.freeAndForget h).op = s.op := by
  simp [State.freeAndForget]

@[simp] theorem State.freeAndForget_settings (s : State) (h : Nat) :
    (s.freeAndForget h).settings = s.settings := by
  simp [State.freeAndForget]

@[simp] theorem State.freeAndForget_pins (s : State) (h : Nat) :
    (s.freeAndForget h).pins = s.pins := by
  simp [State.freeAndForget]

@[simp] theorem State.freeAndForget_freeIndex (s : State) (h : Nat) :
    (s.freeAndForget h).freeIndex = s.freeIndex := by
  simp [State.freeAndForget]

@[simp] theorem State.freeAndForget_pending (s : State) (h : Nat) :
    (s.freeAndForget h).pending = s.pending := by
  simp [State.freeAndForget]

/-! `State.placeResults` -/

@[simp] theorem State.placeResults_sq (s : State) (r : Reply) :
    (s.placeResults r).sq = s.sq :=
  rfl

@[simp] theorem State.placeResults_lle (s : State) (r : Reply) :
    (s.placeResults r).lle = s.lle :=
  rfl

@[simp] theorem State.placeResults_stg (s : State) (r : Reply) :
    (s.placeResults r).stg = s.stg :=
  rfl

@[simp] theorem State.placeResults_titles (s : State) (r : Reply) :
    (s.placeResults r).titles = s.titles :=
  rfl

@[simp] theorem State.placeResults_aq (s : State) (r : Reply) :
    (s.placeResults r).aq = s.aq :=
  rfl

@[simp] theorem State.placeResults_sbk (s : State) (r : Reply) :
    (s.placeResults r).sbk = s.sbk :=
  rfl

@[simp] theorem State.placeResults_op (s : State) (r : Reply) :
    (s.placeResults r).op = s.op :=
  rfl

@[simp] theorem State.placeResults_clu (s : State) (r : Reply) :
    (s.placeResults r).clu = s.clu :=
  rfl

@[simp] theorem State.placeResults_settings (s : State) (r : Reply) :
    (s.placeResults r).settings = s.settings :=
  rfl

@[simp] theorem State.placeResults_pins (s : State) (r : Reply) :
    (s.placeResults r).pins = s.pins :=
  rfl

@[simp] theorem State.placeResults_freeIndex (s : State) (r : Reply) :
    (s.placeResults r).freeIndex = s.freeIndex :=
  rfl

@[simp] theorem State.placeResults_pending (s : State) (r : Reply) :
    (s.placeResults r).pending = s.pending :=
  rfl

/-! `State.portFault` -/

@[simp] theorem State.portFault_sq (s : State) :
    (s.portFault).sq = s.sq :=
  rfl

@[simp] theorem State.portFault_lle (s : State) :
    (s.portFault).lle = s.lle :=
  rfl

@[simp] theorem State.portFault_stg (s : State) :
    (s.portFault).stg = s.stg :=
  rfl

@[simp] theorem State.portFault_titles (s : State) :
    (s.portFault).titles = s.titles :=
  rfl

@[simp] theorem State.portFault_aq (s : State) :
    (s.portFault).aq = s.aq :=
  rfl

@[simp] theorem State.portFault_sbk (s : State) :
    (s.portFault).sbk = s.sbk :=
  rfl

@[simp] theorem State.portFault_op (s : State) :
    (s.portFault).op = s.op :=
  rfl

@[simp] theorem State.portFault_clu (s : State) :
    (s.portFault).clu = s.clu :=
  rfl

@[simp] theorem State.portFault_settings (s : State) :
    (s.portFault).settings = s.settings :=
  rfl

@[simp] theorem State.portFault_pins (s : State) :
    (s.portFault).pins = s.pins :=
  rfl

@[simp] theorem State.portFault_freeIndex (s : State) :
    (s.portFault).freeIndex = s.freeIndex :=
  rfl

@[simp] theorem State.portFault_pending (s : State) :
    (s.portFault).pending = s.pending :=
  rfl

/-! `State.openCommand` -/

@[simp] theorem State.openCommand_sq (s : State) :
    (s.openCommand).sq = s.sq :=
  rfl

@[simp] theorem State.openCommand_lle (s : State) :
    (s.openCommand).lle = s.lle :=
  rfl

@[simp] theorem State.openCommand_stg (s : State) :
    (s.openCommand).stg = s.stg :=
  rfl

@[simp] theorem State.openCommand_titles (s : State) :
    (s.openCommand).titles = s.titles :=
  rfl

@[simp] theorem State.openCommand_aq (s : State) :
    (s.openCommand).aq = s.aq :=
  rfl

@[simp] theorem State.openCommand_sbk (s : State) :
    (s.openCommand).sbk = s.sbk :=
  rfl

@[simp] theorem State.openCommand_op (s : State) :
    (s.openCommand).op = s.op :=
  rfl

@[simp] theorem State.openCommand_clu (s : State) :
    (s.openCommand).clu = s.clu :=
  rfl

@[simp] theorem State.openCommand_settings (s : State) :
    (s.openCommand).settings = s.settings :=
  rfl

@[simp] theorem State.openCommand_pins (s : State) :
    (s.openCommand).pins = s.pins :=
  rfl

@[simp] theorem State.openCommand_freeIndex (s : State) :
    (s.openCommand).freeIndex = s.freeIndex :=
  rfl

@[simp] theorem State.openCommand_pending (s : State) :
    (s.openCommand).pending = s.pending :=
  rfl

/-! `State.endCollection` -/

@[simp] theorem State.endCollection_sq (s : State) :
    (s.endCollection).sq = s.sq :=
  rfl

@[simp] theorem State.endCollection_lle (s : State) :
    (s.endCollection).lle = s.lle :=
  rfl

@[simp] theorem State.endCollection_stg (s : State) :
    (s.endCollection).stg = s.stg :=
  rfl

@[simp] theorem State.endCollection_titles (s : State) :
    (s.endCollection).titles = s.titles :=
  rfl

@[simp] theorem State.endCollection_aq (s : State) :
    (s.endCollection).aq = s.aq :=
  rfl

@[simp] theorem State.endCollection_sbk (s : State) :
    (s.endCollection).sbk = s.sbk :=
  rfl

@[simp] theorem State.endCollection_op (s : State) :
    (s.endCollection).op = s.op :=
  rfl

@[simp] theorem State.endCollection_clu (s : State) :
    (s.endCollection).clu = s.clu :=
  rfl

@[simp] theorem State.endCollection_settings (s : State) :
    (s.endCollection).settings = s.settings :=
  rfl

@[simp] theorem State.endCollection_pins (s : State) :
    (s.endCollection).pins = s.pins :=
  rfl

@[simp] theorem State.endCollection_freeIndex (s : State) :
    (s.endCollection).freeIndex = s.freeIndex :=
  rfl

@[simp] theorem State.endCollection_pending (s : State) :
    (s.endCollection).pending = s.pending :=
  rfl

/-! `State.answerAttention` -/

@[simp] theorem State.answerAttention_sq (s : State) (code : Byte) :
    (s.answerAttention code).sq = s.sq :=
  rfl

@[simp] theorem State.answerAttention_lle (s : State) (code : Byte) :
    (s.answerAttention code).lle = s.lle :=
  rfl

@[simp] theorem State.answerAttention_stg (s : State) (code : Byte) :
    (s.answerAttention code).stg = s.stg :=
  rfl

@[simp] theorem State.answerAttention_titles (s : State) (code : Byte) :
    (s.answerAttention code).titles = s.titles :=
  rfl

@[simp] theorem State.answerAttention_aq (s : State) (code : Byte) :
    (s.answerAttention code).aq = s.aq :=
  rfl

@[simp] theorem State.answerAttention_sbk (s : State) (code : Byte) :
    (s.answerAttention code).sbk = s.sbk :=
  rfl

@[simp] theorem State.answerAttention_op (s : State) (code : Byte) :
    (s.answerAttention code).op = s.op :=
  rfl

@[simp] theorem State.answerAttention_clu (s : State) (code : Byte) :
    (s.answerAttention code).clu = s.clu :=
  rfl

@[simp] theorem State.answerAttention_settings (s : State) (code : Byte) :
    (s.answerAttention code).settings = s.settings :=
  rfl

@[simp] theorem State.answerAttention_pins (s : State) (code : Byte) :
    (s.answerAttention code).pins = s.pins :=
  rfl

@[simp] theorem State.answerAttention_freeIndex (s : State) (code : Byte) :
    (s.answerAttention code).freeIndex = s.freeIndex :=
  rfl

@[simp] theorem State.answerAttention_pending (s : State) (code : Byte) :
    (s.answerAttention code).pending = s.pending :=
  rfl

/-! `State.setParity` -/

@[simp] theorem State.setParity_lle (s : State) (p : Parity) :
    (s.setParity p).lle = s.lle :=
  rfl

@[simp] theorem State.setParity_stg (s : State) (p : Parity) :
    (s.setParity p).stg = s.stg :=
  rfl

@[simp] theorem State.setParity_titles (s : State) (p : Parity) :
    (s.setParity p).titles = s.titles :=
  rfl

@[simp] theorem State.setParity_aq (s : State) (p : Parity) :
    (s.setParity p).aq = s.aq :=
  rfl

@[simp] theorem State.setParity_sbk (s : State) (p : Parity) :
    (s.setParity p).sbk = s.sbk :=
  rfl

@[simp] theorem State.setParity_op (s : State) (p : Parity) :
    (s.setParity p).op = s.op :=
  rfl

@[simp] theorem State.setParity_clu (s : State) (p : Parity) :
    (s.setParity p).clu = s.clu :=
  rfl

@[simp] theorem State.setParity_cpr (s : State) (p : Parity) :
    (s.setParity p).cpr = s.cpr :=
  rfl

@[simp] theorem State.setParity_settings (s : State) (p : Parity) :
    (s.setParity p).settings = s.settings :=
  rfl

@[simp] theorem State.setParity_pins (s : State) (p : Parity) :
    (s.setParity p).pins = s.pins :=
  rfl

@[simp] theorem State.setParity_freeIndex (s : State) (p : Parity) :
    (s.setParity p).freeIndex = s.freeIndex :=
  rfl

@[simp] theorem State.setParity_pending (s : State) (p : Parity) :
    (s.setParity p).pending = s.pending :=
  rfl

/-! `State.withQueue` -/

@[simp] theorem State.withQueue_sq (s : State) (q : List Instr) :
    (s.withQueue q).sq = s.sq :=
  rfl

@[simp] theorem State.withQueue_lle (s : State) (q : List Instr) :
    (s.withQueue q).lle = s.lle :=
  rfl

@[simp] theorem State.withQueue_stg (s : State) (q : List Instr) :
    (s.withQueue q).stg = s.stg :=
  rfl

@[simp] theorem State.withQueue_titles (s : State) (q : List Instr) :
    (s.withQueue q).titles = s.titles :=
  rfl

@[simp] theorem State.withQueue_aq (s : State) (q : List Instr) :
    (s.withQueue q).aq = s.aq :=
  rfl

@[simp] theorem State.withQueue_sbk (s : State) (q : List Instr) :
    (s.withQueue q).sbk = s.sbk :=
  rfl

@[simp] theorem State.withQueue_op (s : State) (q : List Instr) :
    (s.withQueue q).op = s.op :=
  rfl

@[simp] theorem State.withQueue_clu (s : State) (q : List Instr) :
    (s.withQueue q).clu = s.clu :=
  rfl

@[simp] theorem State.withQueue_cpr (s : State) (q : List Instr) :
    (s.withQueue q).cpr = s.cpr :=
  rfl

@[simp] theorem State.withQueue_settings (s : State) (q : List Instr) :
    (s.withQueue q).settings = s.settings :=
  rfl

@[simp] theorem State.withQueue_pins (s : State) (q : List Instr) :
    (s.withQueue q).pins = s.pins :=
  rfl

@[simp] theorem State.withQueue_freeIndex (s : State) (q : List Instr) :
    (s.withQueue q).freeIndex = s.freeIndex :=
  rfl

/-! `State.useFreeValue` -/

@[simp] theorem State.useFreeValue_sq (s : State) :
    (s.useFreeValue).sq = s.sq :=
  rfl

@[simp] theorem State.useFreeValue_lle (s : State) :
    (s.useFreeValue).lle = s.lle :=
  rfl

@[simp] theorem State.useFreeValue_stg (s : State) :
    (s.useFreeValue).stg = s.stg :=
  rfl

@[simp] theorem State.useFreeValue_titles (s : State) :
    (s.useFreeValue).titles = s.titles :=
  rfl

@[simp] theorem State.useFreeValue_aq (s : State) :
    (s.useFreeValue).aq = s.aq :=
  rfl

@[simp] theorem State.useFreeValue_sbk (s : State) :
    (s.useFreeValue).sbk = s.sbk :=
  rfl

@[simp] theorem State.useFreeValue_op (s : State) :
    (s.useFreeValue).op = s.op :=
  rfl

@[simp] theorem State.useFreeValue_clu (s : State) :
    (s.useFreeValue).clu = s.clu :=
  rfl

@[simp] theorem State.useFreeValue_cpr (s : State) :
    (s.useFreeValue).cpr = s.cpr :=
  rfl

@[simp] theorem State.useFreeValue_settings (s : State) :
    (s.useFreeValue).settings = s.settings :=
  rfl

@[simp] theorem State.useFreeValue_pins (s : State) :
    (s.useFreeValue).pins = s.pins :=
  rfl

@[simp] theorem State.useFreeValue_pending (s : State) :
    (s.useFreeValue).pending = s.pending :=
  rfl

/-! `State.answered` -/

@[simp] theorem State.answered_sq (s : State) (code : Byte) (r : Reply) :
    (s.answered code r).sq = s.sq :=
  rfl

@[simp] theorem State.answered_stg (s : State) (code : Byte) (r : Reply) :
    (s.answered code r).stg = s.stg :=
  rfl

@[simp] theorem State.answered_titles (s : State) (code : Byte) (r : Reply) :
    (s.answered code r).titles = s.titles :=
  rfl

@[simp] theorem State.answered_aq (s : State) (code : Byte) (r : Reply) :
    (s.answered code r).aq = s.aq :=
  rfl

@[simp] theorem State.answered_sbk (s : State) (code : Byte) (r : Reply) :
    (s.answered code r).sbk = s.sbk :=
  rfl

@[simp] theorem State.answered_op (s : State) (code : Byte) (r : Reply) :
    (s.answered code r).op = s.op :=
  rfl

@[simp] theorem State.answered_clu (s : State) (code : Byte) (r : Reply) :
    (s.answered code r).clu = s.clu :=
  rfl

@[simp] theorem State.answered_settings (s : State) (code : Byte) (r : Reply) :
    (s.answered code r).settings = s.settings :=
  rfl

@[simp] theorem State.answered_pins (s : State) (code : Byte) (r : Reply) :
    (s.answered code r).pins = s.pins :=
  rfl

@[simp] theorem State.answered_freeIndex (s : State) (code : Byte) (r : Reply) :
    (s.answered code r).freeIndex = s.freeIndex :=
  rfl

@[simp] theorem State.answered_pending (s : State) (code : Byte) (r : Reply) :
    (s.answered code r).pending = s.pending :=
  rfl

/-! `State.abandoning` -/

@[simp] theorem State.abandoning_sq (s : State) :
    (s.abandoning).sq = s.sq :=
  rfl

@[simp] theorem State.abandoning_lle (s : State) :
    (s.abandoning).lle = s.lle :=
  rfl

@[simp] theorem State.abandoning_stg (s : State) :
    (s.abandoning).stg = s.stg :=
  rfl

@[simp] theorem State.abandoning_titles (s : State) :
    (s.abandoning).titles = s.titles :=
  rfl

@[simp] theorem State.abandoning_aq (s : State) :
    (s.abandoning).aq = s.aq :=
  rfl

@[simp] theorem State.abandoning_sbk (s : State) :
    (s.abandoning).sbk = s.sbk :=
  rfl

@[simp] theorem State.abandoning_op (s : State) :
    (s.abandoning).op = s.op :=
  rfl

@[simp] theorem State.abandoning_clu (s : State) :
    (s.abandoning).clu = s.clu :=
  rfl

@[simp] theorem State.abandoning_settings (s : State) :
    (s.abandoning).settings = s.settings :=
  rfl

@[simp] theorem State.abandoning_pins (s : State) :
    (s.abandoning).pins = s.pins :=
  rfl

@[simp] theorem State.abandoning_freeIndex (s : State) :
    (s.abandoning).freeIndex = s.freeIndex :=
  rfl

@[simp] theorem State.abandoning_pending (s : State) :
    (s.abandoning).pending = s.pending :=
  rfl

/-! `State.withTitle` -/

@[simp] theorem State.withTitle_sq (s : State) (h : Byte) (t : Title) :
    (s.withTitle h t).sq = s.sq :=
  rfl

@[simp] theorem State.withTitle_lle (s : State) (h : Byte) (t : Title) :
    (s.withTitle h t).lle = s.lle :=
  rfl

@[simp] theorem State.withTitle_stg (s : State) (h : Byte) (t : Title) :
    (s.withTitle h t).stg = s.stg :=
  rfl

@[simp] theorem State.withTitle_aq (s : State) (h : Byte) (t : Title) :
    (s.withTitle h t).aq = s.aq :=
  rfl

@[simp] theorem State.withTitle_sbk (s : State) (h : Byte) (t : Title) :
    (s.withTitle h t).sbk = s.sbk :=
  rfl

@[simp] theorem State.withTitle_op (s : State) (h : Byte) (t : Title) :
    (s.withTitle h t).op = s.op :=
  rfl

@[simp] theorem State.withTitle_clu (s : State) (h : Byte) (t : Title) :
    (s.withTitle h t).clu = s.clu :=
  rfl

@[simp] theorem State.withTitle_cpr (s : State) (h : Byte) (t : Title) :
    (s.withTitle h t).cpr = s.cpr :=
  rfl

@[simp] theorem State.withTitle_settings (s : State) (h : Byte) (t : Title) :
    (s.withTitle h t).settings = s.settings :=
  rfl

@[simp] theorem State.withTitle_pins (s : State) (h : Byte) (t : Title) :
    (s.withTitle h t).pins = s.pins :=
  rfl

@[simp] theorem State.withTitle_freeIndex (s : State) (h : Byte) (t : Title) :
    (s.withTitle h t).freeIndex = s.freeIndex :=
  rfl

@[simp] theorem State.withTitle_pending (s : State) (h : Byte) (t : Title) :
    (s.withTitle h t).pending = s.pending :=
  rfl

end Sys2Proof.Machine
end

