-- ==== Sys2Proof/Laws/Ops.lean ====
section
/-! SUPPORT. What each shared operation can do, once for all: the title table, events and notices, freeing, and the
performing of a command. -/

namespace Sys2Proof.Machine

open Sys2Proof

/-! ### The title table -/

theorem State.title_zero (s : State) : s.title 0 = none := rfl

theorem State.title_of_pos (s : State) {h : Nat} (pos : 0 < h) : s.title h = (s.titles[h - 1]?).join := by
  simp [State.title, Nat.pos_iff_ne_zero.mp pos]

/-- A live record belongs to a handle of the table. -/
theorem State.title_some_bounds {s : State} {h : Nat} {t : Title} (live : s.title h = some t) :
    0 < h ∧ h ≤ s.titles.length := by
  unfold State.title at live
  split at live
  · cases live
  · rename_i ne
    refine ⟨Nat.pos_of_ne_zero ne, ?_⟩
    by_contra big
    have : s.titles[h - 1]? = none := List.getElem?_eq_none (by omega)
    simp [this] at live

/-- A live record is in the table. -/
theorem State.title_some_mem {s : State} {h : Nat} {t : Title} (live : s.title h = some t) : some t ∈ s.titles := by
  have b := State.title_some_bounds live
  rw [State.title_of_pos s b.1] at live
  have lt : h - 1 < s.titles.length := by omega
  rw [List.getElem?_eq_getElem lt] at live
  have : s.titles[h - 1] = some t := by simpa using live
  exact this ▸ List.getElem_mem lt

theorem State.setTitle_titles (s : State) {h : Nat} (pos : 0 < h) (t : Option Title) :
    (s.setTitle h t).titles = s.titles.set (h - 1) t := by
  simp [State.setTitle, Nat.pos_iff_ne_zero.mp pos]

@[simp] theorem State.setTitle_titles_length (s : State) (h : Nat) (t : Option Title) :
    (s.setTitle h t).titles.length = s.titles.length := by
  unfold State.setTitle
  split <;> simp

/-- Writing the record of a handle of the table, and reading it. -/
theorem State.title_setTitle_same (s : State) {h : Nat} (pos : 0 < h) (le : h ≤ s.titles.length) (t : Option Title) :
    (s.setTitle h t).title h = t := by
  have lt : h - 1 < s.titles.length := by omega
  rw [State.title_of_pos _ pos, State.setTitle_titles s pos]
  simp [lt]

/-- Writing the record of one handle leaves every other. -/
theorem State.title_setTitle_other (s : State) {h k : Nat} (ne : k ≠ h) (t : Option Title) :
    (s.setTitle h t).title k = s.title k := by
  unfold State.title State.setTitle
  by_cases hk : k = 0
  · simp [hk]
  · by_cases hh : h = 0
    · simp [hh]
    · simp [hk, hh]
      rw [List.getElem?_set_ne (by omega)]

/-! ### Events and notices -/

theorem State.raise_events (s : State) (k : EventKind) :
    (s.raise k).cpr.events = if s.cpr.enables.has k then s.cpr.events.with k else s.cpr.events := rfl

@[simp] theorem State.raise_enables (s : State) (k : EventKind) : (s.raise k).cpr.enables = s.cpr.enables := rfl

@[simp] theorem State.raise_notices (s : State) (k : EventKind) : (s.raise k).cpr.notices = s.cpr.notices := rfl

@[simp] theorem State.raise_attention (s : State) (k : EventKind) : (s.raise k).cpr.attention = s.cpr.attention := rfl

/-- What raising an event can do: its kind becomes pending, or nothing happens (11 R182). -/
theorem State.raise_cases (s : State) (k : EventKind) :
    (s.cpr.enables.has k = true ∧ s.raise k = { s with cpr := { s.cpr with events := s.cpr.events.with k } }) ∨
    (s.cpr.enables.has k = false ∧ s.raise k = s) := by
  by_cases e : s.cpr.enables.has k = true
  · exact .inl ⟨e, by simp [State.raise, e]⟩
  · exact .inr ⟨by simpa using e, by simp [State.raise, e]⟩

theorem EventSet.has_with_same (e : EventSet) (k : EventKind) : (e.with k).has k = true := by
  cases k with
  | cue n => fin_cases n <;> simp [EventSet.has, EventSet.with, EventKind.bit]
  | _ => simp [EventSet.has, EventSet.with, EventKind.bit]

theorem EventKind.bit_lt (k : EventKind) : k.bit < 16 := by
  cases k with
  | cue n => simp only [EventKind.bit]; omega
  | _ => simp [EventKind.bit]

theorem EventKind.bit_injective {j k : EventKind} (same : j.bit = k.bit) : j = k := by
  cases j with
  | cue m =>
    cases k with
    | cue n => congr; apply Fin.ext; simp only [EventKind.bit] at same; omega
    | _ => simp only [EventKind.bit] at same; omega
  | _ =>
    cases k with
    | cue n => simp only [EventKind.bit] at same; omega
    | _ => first | rfl | (simp [EventKind.bit] at same)

theorem EventSet.has_with_other (e : EventSet) {j k : EventKind} (ne : j ≠ k) : (e.with k).has j = e.has j := by
  have : k.bit ≠ j.bit := fun h => ne (EventKind.bit_injective h.symm)
  simp [EventSet.has, EventSet.with, BitVec.getLsbD_twoPow, this]

theorem EventSet.has_without_same (e : EventSet) (k : EventKind) : (e.without k).has k = false := by
  simp [EventSet.has, EventSet.without, EventKind.bit_lt]

theorem EventSet.has_without_other (e : EventSet) {j k : EventKind} (ne : j ≠ k) :
    (e.without k).has j = e.has j := by
  have : k.bit ≠ j.bit := fun h => ne (EventKind.bit_injective h.symm)
  have lt := EventKind.bit_lt j
  simp [EventSet.has, EventSet.without, BitVec.getLsbD_twoPow, this]
  intro; omega

/-- An event becomes pending exactly when it is raised while its enable is set (11 R182). -/
theorem State.raise_has (s : State) (k j : EventKind) :
    (s.raise k).cpr.events.has j = (s.cpr.events.has j || (decide (j = k) && s.cpr.enables.has k)) := by
  rw [State.raise_events]
  split
  · rename_i enabled
    by_cases same : j = k
    · subst same; simp [EventSet.has_with_same, enabled]
    · simp [EventSet.has_with_other _ same, same]
  · rename_i disabled
    simp [disabled]

theorem NoticeSet.has_add (x : NoticeSet) (n i : Notice) : (x.add n).has i = (x.has i || decide (i = n)) := by
  cases n <;> cases i <;> simp [NoticeSet.add, NoticeSet.has]

theorem State.noticeSet_setNotices (s : State) {h : Nat} (pos : 1 ≤ h) (le : h ≤ s.cpr.notices.length) (x : NoticeSet)
    (g : Nat) : (s.setNotices h x).noticeSet g = if g = h then x else s.noticeSet g := by
  have z : h ≠ 0 := by omega
  unfold State.noticeSet State.setNotices
  simp only [z, if_false]
  by_cases zero : g = 0
  · simp [zero]; omega
  · by_cases same : g = h
    · subst same
      simp [zero, List.getD_eq_getElem?_getD, List.getElem?_set_self (show g - 1 < s.cpr.notices.length by omega)]
    · simp [zero, same, List.getD_eq_getElem?_getD, List.getElem?_set_ne (show h - 1 ≠ g - 1 by omega)]

theorem State.notify_eq (s : State) (h : Nat) (n : Notice) :
    s.notify h n = (s.setNotices h ((s.noticeSet h).add n)).raise .titleActivity := rfl

@[simp] theorem State.notify_enables (s : State) (h : Nat) (n : Notice) :
    (s.notify h n).cpr.enables = s.cpr.enables := by
  simp only [State.notify, State.raise_enables]
  unfold State.setNotices
  split <;> rfl

@[simp] theorem State.notify_notices_length (s : State) (h : Nat) (n : Notice) :
    (s.notify h n).cpr.notices.length = s.cpr.notices.length := by
  simp only [State.notify, State.raise_notices]
  unfold State.setNotices
  split <;> simp

/-- What raising notices can do: it writes nothing but the port's notices and events. -/
theorem State.notifyAll_eq (s : State) (h : Nat) (ns : List Notice) :
    s.notifyAll h ns = { s with cpr := (s.notifyAll h ns).cpr } := by
  induction ns generalizing s with
  | nil => rfl
  | cons n rest ih =>
    have step : s.notifyAll h (n :: rest) = (s.notify h n).notifyAll h rest := rfl
    rw [step, ih (s.notify h n)]
    simp

/-- What the settling of a title's work can do: it leaves every block but the title table, the queue, the cue lines
and the port. -/
theorem State.settleTitle_frame (s : State) (h : Nat) (r : Title × List Notice) :
    (s.settleTitle h r).sq = s.sq ∧ (s.settleTitle h r).lle = s.lle ∧ (s.settleTitle h r).stg = s.stg ∧
    (s.settleTitle h r).sbk = s.sbk ∧ (s.settleTitle h r).op = s.op ∧ (s.settleTitle h r).settings = s.settings ∧
    (s.settleTitle h r).pins = s.pins ∧ (s.settleTitle h r).freeIndex = s.freeIndex ∧
    (s.settleTitle h r).pending = s.pending ∧ (s.settleTitle h r).aq.held = s.aq.held := by
  have all := State.notifyAll_eq (s.setTitle h (some r.1)) h r.2
  simp only [State.settleTitle]
  rw [all]
  split <;> simp [State.freeRecord]

/-! ### Performing a command -/

theorem performWith_attention {s : State} (code : Byte) (body : State → Performed) (a : s.cpr.attention.any = true) :
    performWith code body s = s.answerAttention code := by
  simp [performWith, a]

theorem performWith_performs {s : State} (code : Byte) (body : State → Performed) (a : s.cpr.attention.any = false) :
    performWith code body s = finish code (body s) := by
  simp [performWith, a]

/-- The end of a command that finds nothing being collected. -/
theorem finish_eq_answered (code : Byte) (t : State) (r : Reply) (none : t.cpr.collecting = none) :
    finish code (t, r) = t.answered code r := by
  simp [finish, State.answered, State.placeResults, State.recordOf, State.occupancy, none]

/-- The row of a last byte, where the command waits for it. -/
theorem State.lastByte_of_awaits {s : State} {c : Command} {ps : List Byte} (w : s.Awaits c ps) (b : Byte)
    (body : List Byte → State → State) : s.lastByte c b body = body (ps ++ [b]) s.endCollection := by
  obtain ⟨⟨up, -⟩, col, len⟩ := w
  have col' : s.cpr.collecting = some { command := c, params := ps } := col
  simp [State.lastByte, State.awaitsLast, up, col', len]

/-- What a last byte can do: nothing while RESET is low, the generic parameter write, or the command. -/
theorem State.lastByte_cases (s : State) (c : Command) (b : Byte) (body : List Byte → State → State) :
    s.lastByte c b body = s ∨ s.lastByte c b body = s.writeParameter b ∨
    ∃ ps, s.awaitsLast c = some ps ∧ s.lastByte c b body = body (ps ++ [b]) s.endCollection := by
  unfold State.lastByte
  split
  · exact .inl rfl
  · split
    · exact .inr (.inl rfl)
    · rename_i ps h
      exact .inr (.inr ⟨ps, h, rfl⟩)

theorem State.commandRow_up {s : State} (up : s.pins.resetLow = false) (body : State → State) :
    s.commandRow body = body s.openCommand := by
  simp [State.commandRow, up]

@[simp] theorem State.endCollection_collecting (s : State) : s.endCollection.cpr.collecting = none := rfl

@[simp] theorem State.openCommand_collecting (s : State) : s.openCommand.cpr.collecting = none := rfl

@[simp] theorem State.endCollection_attention (s : State) : s.endCollection.cpr.attention = s.cpr.attention := rfl

@[simp] theorem State.openCommand_attention (s : State) : s.openCommand.cpr.attention = s.cpr.attention := rfl

end Sys2Proof.Machine
end

