-- ==== Sys2Proof/Laws/Motion.lean ====
section
/-! SUPPORT. The Motion Unit: what recomputing the geometry leaves, and the sum of the stopping distance. -/

namespace Sys2Proof.Machine

open Sys2Proof

@[simp] theorem Title.redisplay_travel (t : Title) : t.redisplay.travel = t.travel := by
  unfold Title.redisplay; split <;> rfl

@[simp] theorem Title.redisplay_velocity (t : Title) : t.redisplay.velocity = t.velocity := by
  unfold Title.redisplay; split <;> rfl

@[simp] theorem Title.redisplay_motion (t : Title) : t.redisplay.motion = t.motion := by
  unfold Title.redisplay; split <;> rfl

@[simp] theorem Title.redisplay_phase (t : Title) : t.redisplay.phase = t.phase := by
  unfold Title.redisplay; split <;> rfl

@[simp] theorem Title.redisplay_marks (t : Title) : t.redisplay.marks = t.marks := by
  unfold Title.redisplay; split <;> rfl

@[simp] theorem Title.redisplay_creepLeft (t : Title) : t.redisplay.creepLeft = t.creepLeft := by
  unfold Title.redisplay; split <;> rfl

/-- The first term of the stopping sum, and the sum from the velocity it leaves (06 R103). -/
theorem Ramp.slowingSum_succ (r : Ramp) (v n : Nat) :
    r.slowingSum v (n + 1) = max r.startRate (v - r.decel) + r.slowingSum (v - r.decel) n := by
  induction n with
  | zero => simp [Ramp.slowingSum]
  | succ n ih =>
    have far : v - (n + 1 + 1) * r.decel = v - r.decel - (n + 1) * r.decel := by
      rw [Nat.sub_sub]
      congr 1
      ring
    rw [Ramp.slowingSum, ih, Ramp.slowingSum, far]
    omega

/-- A replaced ramp is the ramp, where the kind has one. -/
theorem Motion.withRamp_course (m : Motion) (r : Ramp) :
    (m.withRamp r).course = if m.isNone then 0 else r.course := by
  cases m <;> rfl

/-- Storing an entry leaves the phase (07 R129) and the displayed geometry, which the write then computes again (04 R64). -/
theorem Title.store_frame (t : Title) (pixTotal item value : Nat) :
    (t.store pixTotal item value).phase = t.phase ∧ (t.store pixTotal item value).disp = t.disp := by
  have ramp : ∀ f, (t.editRamp f).phase = t.phase ∧ (t.editRamp f).disp = t.disp := fun f => by
    unfold Title.editRamp; split <;> exact ⟨rfl, rfl⟩
  unfold Title.store
  split
  · unfold Title.writePlace; dsimp only; split <;> exact ⟨rfl, rfl⟩
  · split
    · unfold Title.writeKey; dsimp only; split <;> exact ⟨rfl, rfl⟩
    · split
      · unfold Title.writeMotion
        split <;> first | exact ⟨rfl, rfl⟩ | exact ramp _ | skip
        · unfold Title.writeKind; dsimp only; split <;> exact ⟨rfl, rfl⟩
        · split <;> exact ⟨rfl, rfl⟩
      · unfold Title.writeTimeline; split <;> exact ⟨rfl, rfl⟩

@[simp] theorem Title.store_phase (t : Title) (pixTotal item value : Nat) : (t.store pixTotal item value).phase = t.phase :=
  (t.store_frame pixTotal item value).1

@[simp] theorem Title.store_disp (t : Title) (pixTotal item value : Nat) : (t.store pixTotal item value).disp = t.disp :=
  (t.store_frame pixTotal item value).2

/-- No entry of a commit moves a title to another phase (07 R129). -/
@[simp] theorem Title.write_phase (t : Title) (pixTotal item value : Nat) :
    (t.write pixTotal item value).phase = t.phase := by
  rw [Title.write, Title.redisplay_phase, Title.store_phase]

end Sys2Proof.Machine
end

