-- ==== Sys2Proof/Laws/Cue.lean ====
section
/-! SUPPORT. The marks of cue edges, and what the records of a line start share with those after its commit. -/

namespace Sys2Proof.Machine

open Sys2Proof

theorem CueLines.get_put (c : CueLines) (n m : Fin 4) (l : CueLine) :
    (c.put n l).get m = if m = n then l else c.get m := by
  fin_cases n <;> fin_cases m <;> rfl

@[simp] theorem Title.markedBy_phase (edge : Fin 4 → Bool) (r : Title) : (r.markedBy edge).phase = r.phase := rfl

@[simp] theorem Title.markedBy_none (r : Title) : r.markedBy (fun _ => false) = r := by
  simp [Title.markedBy]

/-- The edge of one line marks what `Title.markedBy` says of it (05 R99). -/
theorem Title.cueMarked_eq_markedBy (n : Fin 4) (r : Title) :
    r.cueMarked n = r.markedBy fun k => decide (k = n) := by
  rcases r with ⟨phase, _, _, _, _, start, _, ending, _⟩
  unfold Title.cueMarked Title.markedBy
  cases phase with
  | armed => cases start <;> (simp; try split) <;> simp_all
  | showing c => cases c <;> cases ending <;> (simp; try split) <;> simp_all
  | _ => simp

/-- The edges of several lines leave the marks of each, in either order. -/
theorem Title.markedBy_markedBy (a b : Fin 4 → Bool) (r : Title) :
    (r.markedBy a).markedBy b = r.markedBy fun k => a k || b k := by
  rcases r with ⟨phase, _, _, _, _, start, _, ending, _⟩
  unfold Title.markedBy
  by_cases armed : phase = .armed <;> by_cases dwell : phase = .showing .dwell <;> cases start <;> cases ending <;>
    simp_all [Bool.or_assoc]

/-- The span list of a line reads nothing but the records and the line PIXTOTAL (08 R136 to R139). -/
theorem State.spans_congr {s t : State} (titles : s.titles = t.titles) (pix : s.stg.linePixTotal = t.stg.linePixTotal)
    (p : Parity) (y : Nat) : s.candidates p y = t.candidates p y ∧ s.spans p y = t.spans p y := by
  have same : s.candidates p y = t.candidates p y := by unfold State.candidates State.title; rw [titles]
  exact ⟨same, by unfold State.spans State.ordered; rw [same, pix]⟩

end Sys2Proof.Machine
end

