-- ==== Sys2Proof/Laws/LineStart.lean ====
section
/-! SUPPORT. What the parts of a line start leave as they are: the field step, the commit, the cue work and the line
start itself. -/

namespace Sys2Proof.Machine

open Sys2Proof

/-- Two states that differ at most in the title table, the queue, the cue lines, the port and the STG. -/
structure State.SameCore (s t : State) : Prop where
  sq : t.sq = s.sq
  lle : t.lle = s.lle
  sbk : t.sbk = s.sbk
  op : t.op = s.op
  settings : t.settings = s.settings
  pins : t.pins = s.pins
  freeIndex : t.freeIndex = s.freeIndex
  pending : t.pending = s.pending
  held : t.aq.held = s.aq.held

theorem State.SameCore.refl (s : State) : s.SameCore s :=
  ⟨rfl, rfl, rfl, rfl, rfl, rfl, rfl, rfl, rfl⟩

theorem State.SameCore.trans {s t u : State} (a : s.SameCore t) (b : t.SameCore u) : s.SameCore u :=
  ⟨b.sq.trans a.sq, b.lle.trans a.lle, b.sbk.trans a.sbk, b.op.trans a.op, b.settings.trans a.settings,
    b.pins.trans a.pins, b.freeIndex.trans a.freeIndex, b.pending.trans a.pending, b.held.trans a.held⟩

theorem State.settleTitle_core (s : State) (h : Nat) (r : Title × List Notice) : s.SameCore (s.settleTitle h r) := by
  obtain ⟨a, b, _, d, e, f, g, i, j, k⟩ := State.settleTitle_frame s h r
  exact ⟨a, b, d, e, f, g, i, j, k⟩

theorem State.notify_core (s : State) (h : Nat) (n : Notice) : s.SameCore (s.notify h n) := by
  constructor <;> simp

theorem State.setTitle_core (s : State) (h : Nat) (t : Option Title) : s.SameCore (s.setTitle h t) := by
  constructor <;> simp

/-- A fold of steps that keep the core keeps it. -/
theorem State.foldl_core {α : Type} (f : State → α → State) (keeps : ∀ (s : State) (a : α), s.SameCore (f s a)) (s : State)
    (l : List α) : s.SameCore (l.foldl f s) := by
  induction l generalizing s with
  | nil => exact State.SameCore.refl s
  | cons a rest ih => exact (keeps s a).trans (ih (f s a))

theorem State.fieldStep_core (s : State) : s.SameCore s.fieldStep := by
  unfold State.fieldStep
  refine State.foldl_core _ (fun s h => ?_) s _
  split
  · exact State.SameCore.refl s
  · exact State.settleTitle_core s h _

theorem State.fieldStep_stg (s : State) : s.fieldStep.stg = s.stg := by
  unfold State.fieldStep
  generalize handles = hs
  induction hs generalizing s with
  | nil => rfl
  | cons h rest ih =>
    rw [List.foldl_cons, ih]
    split
    · rfl
    · exact (State.settleTitle_frame s h _).2.2.1

theorem State.cutTitles_core (s : State) : s.SameCore s.cutTitles := by
  unfold State.cutTitles
  refine State.foldl_core _ (fun s h => ?_) s _
  split
  · exact State.SameCore.refl s
  · split
    · exact State.settleTitle_core s h _
    · exact State.SameCore.refl s

theorem applyEntry_core (acc : State × Bool) (e : Entry) : acc.1.SameCore (applyEntry acc e).1 := by
  unfold applyEntry
  split
  · exact ⟨rfl, rfl, rfl, rfl, rfl, rfl, rfl, rfl, rfl⟩
  · split
    · exact State.SameCore.refl _
    · split
      · exact State.setTitle_core _ _ _
      · exact State.notify_core _ _ _

theorem applyEntries_core (es : List Entry) (acc : State × Bool) : acc.1.SameCore (es.foldl applyEntry acc).1 := by
  induction es generalizing acc with
  | nil => exact State.SameCore.refl _
  | cons e rest ih => exact (applyEntry_core acc e).trans (ih _)

/-- A commit changes no block but the title table, the queue's entries, the notices and events, and the STG's device
items. -/
theorem State.commit_core (s : State) : s.SameCore s.commit := by
  unfold State.commit
  split
  · exact State.SameCore.refl s
  · have a := applyEntries_core s.aq.entries (s, false)
    dsimp only at a ⊢
    split <;> exact ⟨a.sq, a.lle, a.sbk, a.op, a.settings, a.pins, a.freeIndex, a.pending, a.held⟩

theorem State.cueSample_core (s : State) (n : Fin 4) (level : Level) : s.SameCore (s.cueSample n level) := by
  unfold State.cueSample
  dsimp only
  split
  · split <;> exact ⟨rfl, rfl, rfl, rfl, rfl, rfl, rfl, rfl, rfl⟩
  · exact ⟨rfl, rfl, rfl, rfl, rfl, rfl, rfl, rfl, rfl⟩

theorem State.cueSample_stg (s : State) (n : Fin 4) (level : Level) : (s.cueSample n level).stg = s.stg := by
  unfold State.cueSample
  dsimp only
  split
  · split <;> rfl
  · rfl

theorem State.cueWork_core (s : State) : s.SameCore s.cueWork := by
  unfold State.cueWork
  exact (((State.cueSample_core _ _ _).trans (State.cueSample_core _ _ _)).trans (State.cueSample_core _ _ _)).trans
    (State.cueSample_core _ _ _)

theorem State.cueWork_stg (s : State) : s.cueWork.stg = s.stg := by
  unfold State.cueWork
  rw [State.cueSample_stg, State.cueSample_stg, State.cueSample_stg, State.cueSample_stg]

theorem State.stepAndCues_core (s : State) (fieldStep cueFirst : Bool) : s.SameCore (s.stepAndCues fieldStep cueFirst) := by
  unfold State.stepAndCues
  split
  · exact State.cueWork_core s
  · split
    · exact (State.cueWork_core s).trans (State.fieldStep_core _)
    · exact (State.fieldStep_core s).trans (State.cueWork_core _)

theorem State.stepAndCues_stg (s : State) (fieldStep cueFirst : Bool) :
    (s.stepAndCues fieldStep cueFirst).stg = s.stg := by
  unfold State.stepAndCues
  split
  · exact State.cueWork_stg s
  · split
    · rw [State.fieldStep_stg, State.cueWork_stg]
    · rw [State.cueWork_stg, State.fieldStep_stg]

/-- The state in which the vertical decision of a line start is made: the cue levels are brought and the schedule is
taken. -/
def State.atLineStart (s : State) (cues : CueLevels) : State :=
  { s with pins := { s.pins with cues := cues }, lle := { s.lle with scheduled := none } }

/-- The state after the vertical decision and a field start's commit, an awaited CHS and the clearing of the field's
flags. -/
def State.settledLine (s : State) (cues : CueLevels) : State :=
  let d := (s.atLineStart cues).decideVertical
  let s2 := if d.2.fieldStart then d.1.commit else d.1
  let s3 := s2.emitAwaited s.lle.y s.stg.vdelay
  if d.2.fieldStart then s3.beginField else s3

theorem State.lineStart_eq (s : State) (cues : CueLevels) (cueFirst : Bool) :
    s.lineStart cues cueFirst =
      (s.settledLine cues).beginLine.buildSpans.stepAndCues (s.atLineStart cues).decideVertical.2.fieldStep cueFirst :=
  rfl

theorem State.buildSpans_blocks (s : State) :
    s.buildSpans.sq = s.sq ∧ s.buildSpans.lle = s.lle ∧ s.buildSpans.stg = s.stg ∧ s.buildSpans.op = s.op ∧
    s.buildSpans.settings = s.settings ∧ s.buildSpans.pins = s.pins ∧ s.buildSpans.titles = s.titles ∧
    s.buildSpans.aq = s.aq ∧ s.buildSpans.clu = s.clu ∧ s.buildSpans.pending = s.pending ∧
    s.buildSpans.freeIndex = s.freeIndex ∧ s.buildSpans.sbk.waitingMaster = s.settings.masterLevel ∧
    s.buildSpans.sbk.waiting = some (s.spans s.sq.parity s.lle.y) := by
  unfold State.buildSpans
  dsimp only
  split <;> exact ⟨rfl, rfl, rfl, rfl, rfl, rfl, rfl, rfl, rfl, rfl, rfl, rfl, rfl⟩

/-- What comes after the vertical decision leaves the SQ, the LLE, the palette, the settings and the pins. -/
theorem State.settledLine_blocks (s : State) (cues : CueLevels) :
    (s.settledLine cues).sq = (s.atLineStart cues).decideVertical.1.sq ∧
    (s.settledLine cues).lle = (s.atLineStart cues).decideVertical.1.lle ∧
    (s.settledLine cues).op = (s.atLineStart cues).decideVertical.1.op ∧
    (s.settledLine cues).settings = (s.atLineStart cues).decideVertical.1.settings ∧
    (s.settledLine cues).pins = (s.atLineStart cues).decideVertical.1.pins ∧
    (s.settledLine cues).pending = (s.atLineStart cues).decideVertical.1.pending := by
  unfold State.settledLine
  generalize (s.atLineStart cues).decideVertical = d
  have c := State.commit_core d.1
  dsimp only
  generalize d.1.commit = k at c ⊢
  simp only [State.emitAwaited, State.beginField, State.emitChs]
  (repeat' split) <;> simp [c.sq, c.lle, c.op, c.settings, c.pins, c.pending]

/-- The SQ, the LLE, the palette, the settings, the pins and the queue of commands after a line start are those of
the vertical decision. -/
theorem State.lineStart_blocks (s : State) (cues : CueLevels) (cueFirst : Bool) :
    (s.lineStart cues cueFirst).sq = (s.atLineStart cues).decideVertical.1.sq ∧
    (s.lineStart cues cueFirst).lle = (s.atLineStart cues).decideVertical.1.lle ∧
    (s.lineStart cues cueFirst).op = (s.atLineStart cues).decideVertical.1.op ∧
    (s.lineStart cues cueFirst).settings = (s.atLineStart cues).decideVertical.1.settings ∧
    (s.lineStart cues cueFirst).pins = (s.atLineStart cues).decideVertical.1.pins ∧
    (s.lineStart cues cueFirst).pending = (s.atLineStart cues).decideVertical.1.pending := by
  rw [State.lineStart_eq]
  have e := State.settledLine_blocks s cues
  have b := State.buildSpans_blocks (s.settledLine cues).beginLine
  have c := State.stepAndCues_core (s.settledLine cues).beginLine.buildSpans
    (s.atLineStart cues).decideVertical.2.fieldStep cueFirst
  generalize (s.settledLine cues).beginLine.buildSpans.stepAndCues
    (s.atLineStart cues).decideVertical.2.fieldStep cueFirst = t at c ⊢
  generalize (s.settledLine cues).beginLine.buildSpans = u at b c
  have f : (s.settledLine cues).beginLine.sq = (s.settledLine cues).sq ∧
      (s.settledLine cues).beginLine.lle = (s.settledLine cues).lle ∧
      (s.settledLine cues).beginLine.op = (s.settledLine cues).op ∧
      (s.settledLine cues).beginLine.settings = (s.settledLine cues).settings ∧
      (s.settledLine cues).beginLine.pins = (s.settledLine cues).pins ∧
      (s.settledLine cues).beginLine.pending = (s.settledLine cues).pending := by
    generalize s.settledLine cues = v
    unfold State.beginLine
    dsimp only
    exact ⟨rfl, rfl, rfl, rfl, rfl, rfl⟩
  generalize (s.settledLine cues).beginLine = w at b f
  generalize s.settledLine cues = v at e f
  generalize (s.atLineStart cues).decideVertical.1 = d at e ⊢
  exact ⟨c.sq.trans (b.1.trans (f.1.trans e.1)), c.lle.trans (b.2.1.trans (f.2.1.trans e.2.1)),
    c.op.trans (b.2.2.2.1.trans (f.2.2.1.trans e.2.2.1)),
    c.settings.trans (b.2.2.2.2.1.trans (f.2.2.2.1.trans e.2.2.2.1)),
    c.pins.trans (b.2.2.2.2.2.1.trans (f.2.2.2.2.1.trans e.2.2.2.2.1)),
    c.pending.trans (b.2.2.2.2.2.2.2.2.2.1.trans (f.2.2.2.2.2.trans e.2.2.2.2.2))⟩

end Sys2Proof.Machine
end

