-- ==== Sys2Proof/Laws/Lock.lean ====
section
/-! SUPPORT. What the qualification of a pulse and the offer of its candidate can do (01 R4, 02 R22). -/

namespace Sys2Proof.Machine

open Sys2Proof

/-- The state in which a qualified pulse's candidate is offered (01 R4, R5). -/
def State.qualified (s : State) : State :=
  { s with sq := { s.sq with pulseState := .qualified, position := s.judge s.sq.leading } }

@[simp] theorem State.qualified_lle (s : State) : s.qualified.lle = s.lle := rfl

@[simp] theorem State.qualified_settings (s : State) : s.qualified.settings = s.settings := rfl

theorem State.qualify_eq (s : State) : s.qualify = s.qualified.offerCandidate s.sq.leading := rfl

/-- The candidate taken: an open gate of a gated state that admits it (02 R22). -/
theorem State.qualify_taken {s : State} (gated : s.lle.lock.gated = true) (opened : s.lle.gateOpen = true)
    (near : (signedGap (fine s.sq.leading) s.lle.edge).natAbs ≤ 256 * s.gateWidth) :
    s.qualify = s.qualified.acceptEdge s.sq.leading := by
  have a : admits s.lle.edge s.gateWidth s.sq.leading = true := by simpa [admits] using near
  have w : s.qualified.gateWidth = s.gateWidth := rfl
  simp [State.qualify_eq, State.offerCandidate, gated, opened, w, a]

/-- The candidate ignored: no gate, a shut gate, or a timestamp outside it (02 R22). -/
theorem State.qualify_ignored {s : State}
    (out : s.lle.lock.gated = false ∨ s.lle.gateOpen = false ∨
      256 * s.gateWidth < (signedGap (fine s.sq.leading) s.lle.edge).natAbs) :
    s.qualify = s.qualified := by
  have w : s.qualified.gateWidth = s.gateWidth := rfl
  rcases out with g | o | far
  · simp [State.qualify_eq, State.offerCandidate, g]
  · simp [State.qualify_eq, State.offerCandidate, o]
  · have a : admits s.lle.edge s.gateWidth s.sq.leading = false := by
      simpa [admits] using Nat.not_le.mpr far
    simp [State.qualify_eq, State.offerCandidate, w, a]

end Sys2Proof.Machine
end

