-- ==== Sys2Proof/Laws/Port.lean ====
section
/-! SUPPORT. Performing a command: what a row leaves once its command is performed, and how the operations of a command
pass the end of the collection. -/

namespace Sys2Proof.Machine

open Sys2Proof

/-- The row of a last byte whose command is performed: the end of its body over the state with nothing collected. -/
theorem State.lastByte_performed {s : State} {c : Command} {ps : List Byte} (w : s.Awaits c ps) (b code : Byte)
    (body : List Byte → State → Performed) :
    s.lastByte c b (fun ps s => performWith code (body ps) s) = finish code (body (ps ++ [b]) s.endCollection) := by
  rw [State.lastByte_of_awaits w]
  exact performWith_performs _ _ (by simpa using w.1.2)

/-- The row of a command without parameters that is performed. -/
theorem State.commandRow_performed {s : State} (w : s.Performs) (code : Byte) (body : State → Performed) :
    s.commandRow (performWith code body) = finish code (body s.openCommand) := by
  rw [State.commandRow_up w.1]
  exact performWith_performs _ _ (by simpa using w.2)

/-- An answer over the state with nothing collected is the answer over the state itself. -/
theorem finish_endCollection (s : State) (code : Byte) (r : Reply) :
    finish code (s.endCollection, r) = s.answered code r := by
  rw [finish_eq_answered _ _ _ rfl]
  rfl

/-- An answer over an opened command is the answer over the state with any other command abandoned. -/
theorem finish_openCommand (s : State) (code : Byte) (r : Reply) :
    finish code (s.openCommand, r) = s.abandoning.answered code r := by
  rw [finish_eq_answered _ _ _ rfl]
  rfl

@[simp] theorem State.endCollection_title (s : State) (h : Nat) : s.endCollection.title h = s.title h := rfl

@[simp] theorem State.openCommand_title (s : State) (h : Nat) : s.openCommand.title h = s.title h := rfl

/-- A live handle is a place of the table. -/
theorem State.title_some_range {s : State} {h : Nat} {t : Title} (e : s.title h = some t) :
    h ≠ 0 ∧ h - 1 < s.titles.length := by
  unfold State.title at e
  split at e
  · cases e
  · refine ⟨by assumption, ?_⟩
    by_contra hn
    simp [List.getElem?_eq_none (Nat.le_of_not_lt hn)] at e

theorem State.endCollection_setTitle (s : State) (h : Nat) (t : Option Title) :
    s.endCollection.setTitle h t = (s.setTitle h t).endCollection := by
  simp only [State.setTitle, State.endCollection]
  split <;> rfl

theorem State.endCollection_notify (s : State) (h : Nat) (n : Notice) :
    s.endCollection.notify h n = (s.notify h n).endCollection := by
  simp only [State.notify, State.setNotices, State.raise, State.endCollection, State.noticeSet]
  split <;> rfl

theorem State.endCollection_notifyAll (s : State) (h : Nat) (ns : List Notice) :
    s.endCollection.notifyAll h ns = (s.notifyAll h ns).endCollection := by
  induction ns generalizing s with
  | nil => rfl
  | cons n rest ih =>
    simp only [State.notifyAll, List.foldl_cons, State.endCollection_notify] at ih ⊢
    exact ih _

theorem State.endCollection_freeRecord (s : State) (h : Nat) :
    s.endCollection.freeRecord h = (s.freeRecord h).endCollection := by
  simp only [State.freeRecord, State.endCollection_setTitle]
  rfl

theorem State.endCollection_settleTitle (s : State) (h : Nat) (r : Title × List Notice) :
    s.endCollection.settleTitle h r = (s.settleTitle h r).endCollection := by
  simp only [State.settleTitle, State.endCollection_setTitle, State.endCollection_notifyAll]
  split
  · exact State.endCollection_freeRecord _ _
  · rfl

theorem State.endCollection_clearNotices (s : State) (h : Nat) :
    s.endCollection.clearNotices h = (s.clearNotices h).endCollection := by
  simp only [State.clearNotices, State.setNotices, State.settleActivity, State.noNotices, State.endCollection]
  split <;> (dsimp only; split <;> rfl)

/-- Work without a notice puts the record in place and does no more. -/
@[simp] theorem State.settleTitle_silent (s : State) (h : Nat) (t : Title) :
    s.settleTitle h (t, []) = s.setTitle h (some t) := by
  simp [State.settleTitle, State.notifyAll]

theorem State.freeRecord_eq_freed (s : State) (h : Byte) (live : h.toNat ≠ 0) : s.freeRecord h.toNat = s.freed h := by
  simp [State.freeRecord, State.freed, State.setTitle, live]
  congr 1

theorem State.setTitle_eq_withTitle (s : State) (h : Byte) (live : h.toNat ≠ 0) (t : Title) :
    s.setTitle h.toNat (some t) = s.withTitle h t := by
  simp [State.setTitle, State.withTitle, live]

end Sys2Proof.Machine
end

