-- ==== Sys2Proof/Laws/Queue.lean ====
section
/-! SUPPORT. What staging and one applied entry of a commit can do. -/

namespace Sys2Proof.Machine

open Sys2Proof

/-- Staging answers a queue in one of two ways: an entry of the same handle and item replaced in place, or the entry
appended where there is room (07 R126). -/
theorem AmendmentQueue.stage_cases {q r : AmendmentQueue} {n : Entry} (h : q.stage n = some r) :
    (q.holds n.handle n.item = true ∧ r = { q with entries := q.entries.map (replaceEntry n) }) ∨
    (q.holds n.handle n.item = false ∧ q.entries.length < 32 ∧ r = { q with entries := q.entries ++ [n] }) := by
  unfold AmendmentQueue.stage at h
  split at h
  · rename_i held
    exact .inl ⟨held, by simpa using h.symm⟩
  · rename_i free
    split at h
    · rename_i room
      exact .inr ⟨by simpa using free, room, by simpa using h.symm⟩
    · cases h

/-- A replacement keeps handle and item of every entry. -/
theorem replaceEntry_key (n e : Entry) :
    (replaceEntry n e).handle = e.handle ∧ (replaceEntry n e).item = e.item := by
  unfold replaceEntry
  split
  · rename_i same
    exact ⟨same.1.symm, same.2.symm⟩
  · exact ⟨rfl, rfl⟩

/-- One applied entry: the STG is written, nothing is done, the record is written, or DROPPED is raised (07 R128). -/
theorem applyEntry_cases (s : State) (written : Bool) (e : Entry) :
    (e.handle = 0 ∧ applyEntry (s, written) e = ({ s with stg := s.stg.writeDevice e.item e.value }, true)) ∨
    (e.handle ≠ 0 ∧ s.title e.handle = none ∧ applyEntry (s, written) e = (s, written)) ∨
    (∃ t, e.handle ≠ 0 ∧ s.title e.handle = some t ∧ t.permits e.item e.value = true ∧
      applyEntry (s, written) e =
        (s.setTitle e.handle (some (t.write s.settings.pixTotal e.item e.value)), true)) ∨
    (∃ t, e.handle ≠ 0 ∧ s.title e.handle = some t ∧ t.permits e.item e.value = false ∧
      applyEntry (s, written) e = (s.notify e.handle .dropped, written)) := by
  unfold applyEntry
  by_cases z : e.handle = 0
  · exact .inl ⟨z, by simp [z]⟩
  · right
    cases live : s.title e.handle with
    | none => exact .inl ⟨z, rfl, by simp [z]⟩
    | some t =>
      right
      cases p : t.permits e.item e.value with
      | true => exact .inl ⟨t, z, rfl, p, by simp [z, p]⟩
      | false => exact .inr ⟨t, z, rfl, p, by simp [z, p]⟩

end Sys2Proof.Machine
end

