-- ==== Sys2Proof/Laws/Slaving.lean ====
section
/-! SUPPORT. The fields that a CHS and a tick leave or set, one lemma a field. -/

namespace Sys2Proof.Machine

open Sys2Proof

/-! ### A CHS (03 R46) -/

@[simp] theorem SlaveTiming.emitChs_edgeNow (g : SlaveTiming) (now : Timestamp) (cpixLat line vdelay : Nat) :
    (g.emitChs now cpixLat line vdelay).edgeNow = false := by unfold SlaveTiming.emitChs; rfl

@[simp] theorem SlaveTiming.emitChs_edgeLast (g : SlaveTiming) (now : Timestamp) (cpixLat line vdelay : Nat) :
    (g.emitChs now cpixLat line vdelay).edgeLast = g.edgeLast := by unfold SlaveTiming.emitChs; rfl

@[simp] theorem SlaveTiming.emitChs_chsLowUntil (g : SlaveTiming) (now : Timestamp) (cpixLat line vdelay : Nat) :
    (g.emitChs now cpixLat line vdelay).chsLowUntil = some (now + 64) := by unfold SlaveTiming.emitChs; rfl

@[simp] theorem SlaveTiming.emitChs_cvsLow (g : SlaveTiming) (now : Timestamp) (cpixLat line vdelay : Nat) :
    (g.emitChs now cpixLat line vdelay).cvsLow = g.startsCvs line vdelay := by unfold SlaveTiming.emitChs; rfl

@[simp] theorem State.emitChs_stg (s : State) (line vdelay : Nat) :
    (s.emitChs line vdelay).stg = s.stg.emitChs s.sq.counter s.settings.cpixLat line vdelay := by
  unfold State.emitChs; rfl

@[simp] theorem State.emitChs_sq (s : State) (line vdelay : Nat) : (s.emitChs line vdelay).sq = s.sq := by
  unfold State.emitChs; rfl

@[simp] theorem State.emitChs_pins (s : State) (line vdelay : Nat) : (s.emitChs line vdelay).pins = s.pins := by
  unfold State.emitChs; rfl

/-! ### A tick (01 R1, 03 R45) -/

@[simp] theorem State.driveSample_stg (s : State) : s.driveSample.stg = s.stg := by
  unfold State.driveSample; split <;> rfl

@[simp] theorem State.driveSample_sq (s : State) : s.driveSample.sq = s.sq := by
  unfold State.driveSample; split <;> rfl

@[simp] theorem State.driveSample_pins (s : State) : s.driveSample.pins = s.pins := by
  unfold State.driveSample; split <;> rfl

@[simp] theorem State.tick_sq (s : State) : s.tick.sq = { s.sq with counter := s.sq.counter + 1 } := by
  unfold State.tick; dsimp only; split <;> simp

@[simp] theorem State.tick_pins (s : State) : s.tick.pins = s.pins := by
  unfold State.tick; dsimp only; split <;> simp

/-- What a tick does to the STG: nothing while RESET is low, and else one advance. -/
theorem State.tick_stg (s : State) : s.tick.stg = if s.pins.resetLow then s.stg else s.stg.advance := by
  unfold State.tick; dsimp only; split <;> simp

@[simp] theorem State.tick_chsLowUntil (s : State) : s.tick.stg.chsLowUntil = s.stg.chsLowUntil := by
  rw [State.tick_stg]; split <;> rfl

@[simp] theorem State.tick_cvsLow (s : State) : s.tick.stg.cvsLow = s.stg.cvsLow := by
  rw [State.tick_stg]; split <;> rfl

/-- `n` ticks running: the pins and the end of the CHS pulse stand, and the counter has gone on by `n` (01 R1). -/
theorem State.tick_iterate (s : State) (n : Nat) :
    (State.tick^[n] s).pins = s.pins ∧ (State.tick^[n] s).stg.chsLowUntil = s.stg.chsLowUntil ∧
    (State.tick^[n] s).sq.counter = s.sq.counter + BitVec.ofNat 24 n := by
  induction n generalizing s with
  | zero => simp
  | succ n ih =>
    obtain ⟨pins, until_, counter⟩ := ih s.tick
    refine ⟨pins.trans s.tick_pins, until_.trans s.tick_chsLowUntil, counter.trans ?_⟩
    rw [State.tick_sq, BitVec.add_assoc, BitVec.ofNat_add, BitVec.add_comm 1]; rfl

end Sys2Proof.Machine
end

