-- ==== Sys2Proof/WellFormed.lean ====
section
/-! DEFINITION. Well-formed commands: the two rows whose operand the table restricts. Every other operand may take
every value. -/

namespace Sys2Proof

/-- COMMAND_BYTE_WRITE carries "a code that takes parameters" and UNKNOWN_COMMAND a byte "that names no command"
(spec/opcode_table.json; 11 R174, R176). -/
def Instr.wellFormed : Instr → Bool
  | .commandByteWrite code =>
    match Command.ofCode code with
    | some c => decide (0 < c.paramCount)
    | none => false
  | .unknownCommand code => (Command.ofCode code).isNone
  | _ => true

end Sys2Proof
end

