-- ==== Sys2Proof/Tests/Slice0.lean ====
section
/-! SUPPORT. Tests: the checks of WellFormed, witnesses that meet the hypotheses of the statements, each clause at a
boundary of its range, and single steps whose expected results are the spec's own worked figures or follow from its
tables. -/

namespace Sys2Proof.Tests

open Sys2Proof Sys2Proof.Machine

/-! ### Helpers -/

/-- The part after power-on, its attention reason already answered: it performs host commands. -/
def up : State := { State.reset with cpr := { State.reset.cpr with attention := Attention.empty } }

/-- Command `c` being collected with the bytes `ps` so far. -/
def collecting (s : State) (c : Command) (ps : List Byte) : State :=
  { s with cpr := { s.cpr with collecting := some { command := c, params := ps } } }

def inLock (s : State) (l : LockState) : State := { s with lle := { s.lle with lock := l } }

def at_ (s : State) (t : Timestamp) : State := { s with sq := { s.sq with counter := t } }

def place (s : State) (h : Nat) (t : Title) : State := { s with titles := s.titles.set (h - 1) (some t) }

def resetLow (s : State) : State := { s with pins := { s.pins with resetLow := true } }

def csyncLow (s : State) : State := { s with pins := { s.pins with csync := .low } }

/-- The state a command leaves; the state it found where it stops. -/
def after (c : Instr) (s : State) : State :=
  match exec c s with
  | .next t => t
  | .fault _ => s
  | .refused _ => s

/-- Whether a command answers a next state. -/
def completes (c : Instr) (s : State) : Bool :=
  match exec c s with
  | .next _ => true
  | .fault _ => false
  | .refused _ => false

theorem next_of_completes {c : Instr} {s : State} (h : completes c s = true) : exec c s = .next (after c s) := by
  unfold completes at h
  unfold after
  cases e : exec c s <;> simp [e] at h ⊢

/-- A title of kind NONE in every numeric field's range. -/
def still : Title :=
  { phase := .dormant, marks := Marks.empty
    place := { prio := 2, mask := .both, top := 200, height := 20, left := 100, width := 200 }
    key := { colour := 0, mask := 15, sense := .normal, bank := 0, level := 63 }
    motion := .none, start := .command, dwell := 3, ending := .dwell, exit := .cut, exitStep := 16
    autoRetire := false, travel := 0, velocity := 0, creepLeft := 0, turnPause := 0, dwellLeft := 0
    leavePlanned := false, haltPending := false, byCommand := false
    disp := { top := 200, left := 100, width := 200, level := 63 } }

def inPhase (p : Phase) : Title := { still with phase := p }

/-- The ramp of the fade ramp figure (06). -/
def fadeRamp : Ramp :=
  { course := 1008, startRate := 16, runRate := 96, accel := 16, decel := 32, rampDown := 0, creep := 2 }

def fading (p : Phase) : Title := { still with phase := p, motion := .fade fadeRamp }

/-- A pulse in the given state that began at 0, at width `w`, with CSYNC low. -/
def pulse (s : State) (p : PulseState) (w : Timestamp) : State :=
  csyncLow { s with sq := { s.sq with pulseState := p, leading := 0, counter := w } }

/-- A broad run of count `n` whose last BROAD edge lay `gap` cc before reading 0. -/
def run (n : Nat) (gap : Timestamp) : BroadRun :=
  { count := n, first := .atLine, last := 0 - gap, recognised := false, expiry := some (1150 - gap) }

def withRun (s : State) (r : BroadRun) : State := { s with sq := { s.sq with run := some r } }

/-! ### WellFormed -/

theorem test_wellFormed_refuses_command_without_parameters : Instr.wellFormed (.commandByteWrite 0x16) = false := by
  decide

theorem test_wellFormed_refuses_unknown_code_as_command : Instr.wellFormed (.commandByteWrite 0xFF) = false := by
  decide

theorem test_wellFormed_refuses_known_code_as_unknown : Instr.wellFormed (.unknownCommand 0x10) = false := by
  decide

theorem test_wellFormed_admits_create : Instr.wellFormed (.commandByteWrite 0x10) = true := by decide

theorem test_no_word_spells_a_row : decodeTableWord 8 0x10 = none := by decide

/-! ### Witnesses: the queue, the clock, power and reset -/

theorem witness_StepRunsFrontCommand :
    ({ up with pending := [.statusRead, .resultRead] } : State).pending = .statusRead :: [.resultRead] := rfl

theorem witness_IdleStepRunsTheClockAndGoesOn :
    State.reset.pending = [] ∧ State.reset.dueEvent = none ∧ (at_ State.reset 2048).pending = [] ∧
    (at_ State.reset 2047).dueEvent = none ∧ (at_ State.reset 2047).freeLineDue = false ∧
    (at_ State.reset 2048).dueEvent = some .freeLineDecision ∧ (at_ State.reset 2048).freeLineDue = true ∧
    ∃ t, exec .statusRead { up with pending := [.chs] } = .next t :=
  ⟨by decide, by decide, by decide, by decide, by decide, by decide, by decide, _, rfl⟩

/-- A sample handed on, and an accumulator one increment short of a carry, in the lock state given. -/
def handing (k : KeyedSample) (l : LockState) : State :=
  inLock { up with
    sbk := { up.sbk with handed := some k }, stg := { up.stg with accumulator := 2952790016 } } l

theorem witness_ClockTickAdvancesCounterAndAccumulator :
    (resetLow (at_ up 0xFFFFFF)).pins.resetLow = true ∧ up.pins.resetLow = false ∧ up.sbk.handed = none ∧
    (handing .clear .standby).sbk.handed = some .clear ∧ (handing .clear .standby).pins.resetLow = false ∧
    (handing (.overlaid 63 63) .standby).sbk.handed = some (.overlaid 63 63) ∧
    (handing (.overlaid 63 63) .standby).lle.lock = .standby ∧
    (handing (.overlaid 63 63) .locked).lle.lock ≠ .standby := by decide

/-- 2952790016 + 1342177280 is 2^32, the first sum that carries; 01 R1 wraps the counter. -/
theorem test_tick_carries_at_the_top :
    (handing .clear .locked).tick.stg.edgeNow = true ∧ (handing .clear .locked).tick.stg.accumulator = 0 ∧
    (at_ up 0xFFFFFF).tick.sq.counter = 0 := by decide

theorem test_powerOn_with_csync_low : (after (.powerOn .low) up).sq.pulseState = .waitHigh := by decide

theorem test_pinReset_keeps_the_palette :
    let s : State := { up with op := { up.op with entries := List.replicate 64 { r := 1, g := 2, b := 3 } } }
    (after .pinReset s).op.entries.getD 63 Colour.black = { r := 1, g := 2, b := 3 } ∧
    (after .pinReset s).cpr.attention.pinReset = true := by decide

theorem test_pinResetStart_abandons_the_pulse :
    (after .pinResetStart (pulse up .timing 5)).sq.pulseState = .waitHigh ∧
    (after .pinResetStart (pulse up .timing 5)).pins.resetLow = true := by decide

/-! ### Witnesses: sync qualification -/

theorem witness_EdgesBeginAndDropPulses :
    (up.pins.csync = .high ∧ up.pins.resetLow = false ∧ up.sq.pulseState = .idle) ∧
    ((pulse up .waitHigh 1).pins.csync = .low ∧ (pulse up .waitHigh 1).pins.resetLow = false ∧
      (pulse up .waitHigh 1).sq.pulseState = .waitHigh) ∧
    (pulse up .overlong 1102).sq.pulseState = .overlong ∧
    ((pulse up .timing 15).sq.pulseState = .timing ∧
      forward (pulse up .timing 15).sq.leading (pulse up .timing 15).sq.counter < (pulse up .timing 15).sq.filterWidth ∧
      (pulse up .timing 15).sq.run = none) ∧
    ((withRun (pulse up .timing 15) { run 2 1150 with expiry := none }).sq.run =
      some { run 2 1150 with expiry := none }) ∧
    ((resetLow (csyncLow up)).pins.csync = .low ∧ (resetLow (csyncLow up)).pins.resetLow = true) ∧
    ((resetLow up).pins.csync = .high ∧ (resetLow up).pins.resetLow = true) := by decide

theorem witness_PulsesAreClassedAndExpire :
    ((pulse up .timing 16).pins.csync = .low ∧ (pulse up .timing 16).pins.resetLow = false ∧
      (pulse up .timing 16).sq.pulseState = .timing ∧ (pulse up .timing 16).qualificationDue = true ∧
      forward (pulse up .timing 16).sq.leading (pulse up .timing 16).sq.counter =
        (pulse up .timing 16).sq.filterWidth) ∧
    ([111, 112, 399, 400, 1100, 1101] : List Timestamp).all (fun w =>
      let s := pulse up .qualified w
      decide (s.pins.csync = .low ∧ s.pins.resetLow = false ∧ s.sq.pulseState = .qualified ∧ s.lle.lock ≠ .freeRun ∧
        (inLock s .freeRun).settings.reference = .lock ∧
        forward s.sq.leading s.sq.counter = w.toNat)) = true ∧
    ((pulse up .qualified 1101).overlongDue = true ∧ (inLock (pulse up .qualified 1101) .freeRun).overlongDue = true ∧
      (pulse up .qualified 1100).overlongDue = false) ∧
    ((withRun (at_ up 0) (run 1 1150)).runExpiryDue = true ∧ (withRun (at_ up 0) (run 1 1150)).sq.pulseState = .idle ∧
      (withRun (at_ up 0) (run 1 1149)).runExpiryDue = false) ∧
    ((withRun (pulse up .timing 0) (run 1 1150)).runExpiryDue = true ∧
      (withRun (pulse up .timing 0) (run 1 1150)).sq.pulseState = .timing) := by decide

/-- 01 R4: an edge at the very cc of the expiry, width F, finds the pulse qualified, and classes it EQ. -/
theorem test_rising_edge_at_the_filter_width :
    (after .csyncRisingEdge (withRun (pulse up .timing 16) (run 1 1024))).sq.run = none ∧
    (after .csyncRisingEdge (withRun (pulse up .timing 15) (run 1 1024))).sq.run = some (run 1 1024) ∧
    (after .csyncRisingEdge (pulse up .timing 16)).sq.pulseState = .idle := by decide

/-- 01 R6 at the ends of each class. -/
theorem test_rising_edge_classes_at_their_ends :
    (after .csyncRisingEdge (pulse up .qualified 111)).sq.hsReference = none ∧
    (after .csyncRisingEdge (pulse up .qualified 112)).sq.hsReference = some 0 ∧
    (after .csyncRisingEdge (pulse up .qualified 399)).sq.hsReference = some 0 ∧
    (after .csyncRisingEdge (pulse up .qualified 400)).sq.run.isSome ∧
    (after .csyncRisingEdge (pulse up .qualified 1100)).sq.run.isSome ∧
    (after .csyncRisingEdge (pulse up .qualified 1101)).sq.run = none := by decide

theorem test_falling_edge_begins_timing :
    (after .csyncFallingEdge (at_ up 77)).sq.leading = 77 ∧
    (after .csyncFallingEdge (at_ up 77)).sq.pulseState = .timing := by decide

theorem witness_BroadRunAndRecognition :
    up.sq.run = none ∧
    ([899, 900, 1150, 1151] : List Timestamp).all (fun gap =>
      decide (forward (run 2 gap).last 0 = gap.toNat ∧ (withRun up (run 2 gap)).sq.run = some (run 2 gap))) = true ∧
    ((run 2 900).count = 2 ∧ (run 2 900).recognised = false) ∧ (run 3 1150).count ≠ 2 ∧
    ({ run 2 900 with recognised := true } : BroadRun).recognised = true := by decide

/-- 01 R11: the third BROAD pulse of a run that began AT LINE is a recognition of parity A. -/
theorem test_third_broad_pulse_is_recognised :
    (withRun up (run 2 1024)).sq.afterBroad.recognition = some .a ∧
    (withRun up (run 2 1151)).sq.afterBroad.recognition = none ∧
    (withRun up (run 1 1024)).sq.afterBroad.recognition = none := by decide

theorem witness_OtherClassesEndTheBroadRun :
    ([399, 1101] : List Timestamp).all (fun w =>
      let s := withRun (pulse up .qualified w) (run 1 1024)
      decide (s.pins.csync = .low ∧ s.pins.resetLow = false ∧ s.sq.pulseState = .qualified ∧
        (forward s.sq.leading s.sq.counter < 400 ∨ 1100 < forward s.sq.leading s.sq.counter))) = true ∧
    (∃ t, exec .csyncRisingEdge (withRun (pulse up .qualified 399) (run 1 1024)) = .next t) ∧
    (pulse up .qualified 1101).overlongDue = true ∧ (∃ t, exec .overlongExpiry (pulse up .qualified 1101) = .next t) :=
  ⟨by decide, ⟨_, next_of_completes (by decide)⟩, by decide, ⟨_, next_of_completes (by decide)⟩⟩

/-- A pulse that began at reading 0 and reaches its qualification expiry, the HS reference `d` cc before it. -/
def qualifying (d : Timestamp) : State :=
  let s := pulse up .timing 16
  { s with sq := { s.sq with hsReference := some (0 - d) } }

/-- The same in LOCKED, with the predicted edge at `e` and the gate OPEN or SHUT. -/
def gated (e : FineTime) (gateOpen : Bool) : State :=
  let s := inLock (pulse up .timing 16) .locked
  { s with lle := { s.lle with edge := e, gateOpen := gateOpen, gateEdge := some { edge := e, halfWidth := 48 } } }

theorem witness_QualificationRecordsThePosition :
    ((pulse up .timing 16).qualificationDue = true ∧ (pulse up .timing 15).qualificationDue = false ∧
      (pulse up .timing 16).lle.lock.gated = false ∧ (pulse up .timing 16).sq.hsReference = none) ∧
    ([48, 2000] : List Timestamp).all (fun d =>
      let r := forward (0 - d) 0 % ((qualifying d).lle.period / 256)
      decide ((qualifying d).sq.hsReference = some (0 - d) ∧ (r ≤ 48 ∨ 2048 - r ≤ 48))) = true ∧
    ([49, 1999] : List Timestamp).all (fun d =>
      let r := forward (0 - d) 0 % ((qualifying d).lle.period / 256)
      decide (48 < r ∧ 48 < 2048 - r)) = true ∧
    ((gated 12288 false).qualificationDue = true ∧ (gated 12288 false).lle.lock.gated = true ∧
      (gated 12288 false).lle.gateOpen = false ∧
      (signedGap (fine 0) (12288 : FineTime)).natAbs ≤ 256 * 48) ∧
    ((gated 12289 true).lle.gateOpen = true ∧ 256 * 48 < (signedGap (fine 0) (12289 : FineTime)).natAbs) := by decide

theorem test_qualification_judges_the_position :
    (after .qualificationExpiry (qualifying 48)).sq.position = .atLine ∧
    (after .qualificationExpiry (qualifying 49)).sq.position = .offLine ∧
    (after .qualificationExpiry (gated 12288 false)).sq.position = .atLine ∧
    (after .qualificationExpiry (gated 12289 false)).sq.position = .offLine := by decide

theorem test_run_expiry_ends_the_run_or_waits :
    (after .runExpiry (withRun (at_ up 0) (run 1 1150))).sq.run = none ∧
    (after .runExpiry (withRun (pulse up .timing 0) (run 1 1150))).sq.run = some { run 1 1150 with expiry := none } ∧
    (after .overlongExpiry (pulse up .qualified 1101)).sq.pulseState = .overlong := by decide

/-! ### Witnesses: line lock -/

/-- `n` edges at a spacing, the last of them at reading 0. -/
def train (n : Nat) (spacing : Nat) : List Timestamp :=
  (List.range n).map fun k => 0 - BitVec.ofNat 24 ((n - 1 - k) * spacing)

theorem witness_AcquisitionSetIsTrimmedUntilItPasses :
    (setPasses (train 8 1536) = true ∧ (train 8 1536).length = 8) ∧ setPasses (train 8 2559) = true ∧
    setPasses (train 8 1535) = false ∧ setPasses (train 8 2560) = false := by decide

/-- A FREE-RUN search with the edges so far, and an HS or other pulse of width `w` that began at reading 0. -/
def searching (edges : List Timestamp) (w : Timestamp) : State :=
  let s := inLock (pulse up .qualified w) .freeRun
  { s with lle := { s.lle with edgeSet := edges } }

theorem witness_SearchTakesHsClasses :
    ([111, 112, 399, 400] : List Timestamp).all (fun w =>
      let s := searching ((train 8 2048).take 7) w
      decide (s.pins.csync = .low ∧ s.pins.resetLow = false ∧ s.sq.pulseState = .qualified ∧ s.lle.lock = .freeRun ∧
        s.settings.reference = .lock ∧ forward s.sq.leading s.sq.counter = w.toNat ∧
        (trimmed (s.lle.edgeSet ++ [s.sq.leading])).length = 8)) = true ∧
    (trimmed ((train 7 2048).take 6 ++ [0])).length ≠ 8 ∧
    (∃ t, exec .csyncRisingEdge (searching ((train 8 2048).take 7) 399) = .next t) :=
  ⟨by decide, by decide, _, next_of_completes (by decide)⟩

/-- 02 R29: 8 edges 2048 apart give P = 14336 × 256 / 7 = 524288. -/
theorem test_rising_edge_begins_acquisition :
    (after .csyncRisingEdge (searching ((train 8 2048).take 7) 150)).lle.lock = .acquiring ∧
    (after .csyncRisingEdge (searching ((train 8 2048).take 7) 150)).lle.period = 524288 := by decide

theorem test_gate_opens_with_its_width :
    (after .gateOpen (inLock (at_ up 2000) .locked)).lle.gateEdge = some { edge := 524288, halfWidth := 48 } := by
  decide

/-- 02 R24 and R21: E = 2048 cc, so the line starts at 2304 and the next edge is at 4096 cc. -/
theorem test_free_line_is_scheduled :
    (after .freeLineDecision (at_ up 2048)).lle.scheduled = some 2304 ∧
    (after .freeLineDecision (at_ up 2048)).lle.edge = 1048576 := by decide

theorem witness_LoopUpdateCorrectsPhaseAndPeriod :
    393216 ≤ LineLock.initial.period ∧ LineLock.initial.period ≤ 655359 := by decide

/-- 02, "Worked figure: one loop update". -/
theorem test_loop_update_by_the_worked_figures :
    let l : LineLock := { LineLock.initial with period := 524288, edge := 25600064 }
    let e := signedGap (fine 100003) l.edge
    e = 704 ∧ (l.loopUpdate e 2 6).period = 524299 ∧ (l.loopUpdate e 2 6).edge = 26124539 ∧
    (l.loopUpdate e 2 6).scheduled = some 100256 ∧ pixelIncrement 768 524299 = 1610578944 := by decide

/-- A pulse that began at reading 0 and qualifies at 16, in a gated state with the gate OPEN, E off by `e`. -/
def tracking (l : LockState) (e : FineTime) : State :=
  let s := inLock (pulse up .timing 16) l
  { s with lle := { s.lle with
      edge := 0 - e, gateOpen := true, gateEdge := some { edge := 0 - e, halfWidth := 48 } } }

def missed (s : State) (n : Nat) : State := { s with lle := { s.lle with missCount := n } }

def good (s : State) (n : Nat) : State := { s with lle := { s.lle with goodCount := n } }

theorem witness_TrackedEdgeIsGoodMissedOrASlip :
    ((tracking .locked 2048).qualificationDue = true ∧ (tracking .locked 2048).lle.lock = .locked ∧
      (tracking .locked 2048).lle.gateOpen = true ∧
      (signedGap (fine (tracking .locked 2048).sq.leading) (tracking .locked 2048).lle.edge).natAbs = 256 * 8 ∧
      256 * 8 ≤ 256 * (tracking .locked 2048).gateWidth) ∧
    ((signedGap (fine (tracking .locked 2049).sq.leading) (tracking .locked 2049).lle.edge).natAbs = 2049 ∧
      256 * (tracking .locked 2049).settings.window < 2049) ∧
    ((missed (tracking .locked 2049) 2).lle.missCount + 1 < (missed (tracking .locked 2049) 2).settings.slipLimit) ∧
    ((missed (tracking .locked 2049) 3).settings.slipLimit ≤ (missed (tracking .locked 2049) 3).lle.missCount + 1) ∧
    ((tracking .flywheel 12288).qualificationDue = true ∧ (tracking .flywheel 12288).lle.lock = .flywheel ∧
      (tracking .flywheel 12288).lle.gateOpen = true ∧
      (signedGap (fine (tracking .flywheel 12288).sq.leading) (tracking .flywheel 12288).lle.edge).natAbs =
        256 * (tracking .flywheel 12288).gateWidth) := by decide

/-- 02 R25, and 02 R30: the sixteenth good line in a row gains lock. -/
theorem test_qualification_tracks_slips_and_gains_lock :
    (after .qualificationExpiry (tracking .locked 2048)).lle.lastError = some 2048 ∧
    (after .qualificationExpiry (missed (tracking .locked 2049) 2)).lle.missCount = 3 ∧
    (after .qualificationExpiry (missed (tracking .locked 2049) 3)).lle.lock = .acquiring ∧
    (after .qualificationExpiry (missed (tracking .locked 2049) 3)).lle.slips = 1 ∧
    (after .qualificationExpiry (good (tracking .acquiring 0) 14)).lle.lock = .acquiring ∧
    (after .qualificationExpiry (good (tracking .acquiring 0) 15)).lle.lock = .locked := by decide

theorem witness_AcquiringEdgeCountsGoodLines :
    ((tracking .acquiring 2048).qualificationDue = true ∧ (tracking .acquiring 2048).lle.lock = .acquiring ∧
      (tracking .acquiring 2048).lle.gateOpen = true ∧
      (signedGap (fine (tracking .acquiring 2048).sq.leading) (tracking .acquiring 2048).lle.edge).natAbs =
        256 * (tracking .acquiring 2048).settings.window) ∧
    (good (tracking .acquiring 2048) 14).lle.goodCount < 15 ∧ 15 ≤ (good (tracking .acquiring 2048) 15).lle.goodCount ∧
    256 * (tracking .acquiring 2049).settings.window <
      (signedGap (fine (tracking .acquiring 2049).sq.leading) (tracking .acquiring 2049).lle.edge).natAbs := by decide

/-- A gate still OPEN at its decision expiry: E at 2048 cc, G 48, F 16, so at 2113. -/
def missing (l : LockState) (holdCount : Nat) : State :=
  let s := inLock (at_ up 2113) l
  { s with lle := { s.lle with
      gateOpen := true, gateEdge := some { edge := 524288, halfWidth := 48 }, holdCount := holdCount } }

theorem witness_GateOpensAndLinesWithoutAnEdgeAreTimed :
    (inLock (at_ up 2000) .locked).gateOpenDue = true ∧ (inLock (at_ up 1999) .locked).gateOpenDue = false ∧
    (at_ up 2048).freeLineDue = true ∧ (at_ up 2047).freeLineDue = false ∧
    ((missing .locked 0).gateDecisionDue = true ∧ (missing .locked 0).lle.lock = .locked) ∧
    (at_ (missing .locked 0) 2112).gateDecisionDue = false ∧
    ((missing .flywheel 31).gateDecisionDue = true ∧
      (missing .flywheel 31).lle.holdCount < (missing .flywheel 31).settings.holdLimit) ∧
    ((missing .flywheel 32).gateDecisionDue = true ∧
      (missing .flywheel 32).settings.holdLimit ≤ (missing .flywheel 32).lle.holdCount) ∧
    ((missing .acquiring 0).gateDecisionDue = true ∧ (missing .acquiring 0).lle.lock = .acquiring) := by decide

theorem test_gate_decision_flywheels_and_holds_over :
    (after .gateDecisionExpiry (missing .locked 0)).lle.lock = .flywheel ∧
    (after .gateDecisionExpiry (missing .flywheel 31)).lle.holdCount = 32 ∧
    (after .gateDecisionExpiry (missing .flywheel 32)).lle.lock = .freeRun := by decide

/-! ### Witnesses: line starts and the slaving outputs -/

/-- A line start due now, in a lock state, with the line, the field and the re-align window given. -/
def lineDue (l : LockState) (y n window : Nat) : State :=
  let s := inLock up l
  { s with lle := { s.lle with scheduled := some 0, y := y, fieldLines := n, realign := window } }

def recognising (s : State) (p : Parity) : State := { s with sq := { s.sq with recognition := some p } }

def stepped (s : State) : State := { s with lle := { s.lle with stepTaken := true } }

def cuesHigh : CueLevels := { c0 := .high, c1 := .high, c2 := .high, c3 := .high }

def cuesLow : CueLevels := { c0 := .low, c1 := .low, c2 := .low, c3 := .low }

def wholeLine : Span :=
  { handle := 1, xl := 0, xr := 640, colour := 8, mask := 12, sense := .normal, bank := 3, level := 63 }

abbrev begins : Instr := .lineStart cuesHigh false

/-- A CHS still awaited, by a line of HDELAY 40, with `spans` waiting for it. -/
def owed (s : State) (spans : Option (List Span)) : State :=
  { s with
    stg := { s.stg with awaiting := true, hdelay := 40, cvsDone := false }, sbk := { s.sbk with waiting := spans } }

theorem witness_LineStartCompletes :
    (lineDue .locked 100 313 0).lineStartDue = true ∧ up.lineStartDue = false ∧
    ((owed (lineDue .locked 100 313 0) (some [])).lineStartDue = true ∧
      (owed (lineDue .locked 100 313 0) (some [])).stg.awaiting = true ∧
      (owed (lineDue .locked 100 313 0) (some [])).committedAt.stg.hdelay ≠ 0) ∧
    (recognising (lineDue .locked 313 313 0) .b).startsField = true ∧ (lineDue .locked 312 313 0).startsField = false :=
  by decide

/-- 03 R47: the awaited CHS goes out at the line start, with the keying list of the line that led to it. -/
theorem test_line_start_emits_the_awaited_chs :
    let t := after begins (owed (lineDue .locked 100 313 0) (some [wholeLine]))
    t.stg.chsLowUntil = some 64 ∧ t.sbk.keying = [wholeLine] ∧ t.stg.awaiting = true ∧ t.stg.lineHdelay = 40 := by
  decide

theorem witness_RealFieldStartFollowsTheRecognition :
    let s := recognising (lineDue .locked 314 313 0) .b
    (∃ t, exec begins s = .next t) ∧ s.settings.reference = .lock ∧ s.lle.lock ≠ .standby ∧
    s.sq.recognition = some .b ∧ s.lle.realign = 0 ∧ s.lle.y + 1 = s.lle.fieldLines + 2 ∧
    (recognising (lineDue .locked 313 313 0) .b).lle.y + 1 ≠ 313 + 2 ∧ (recognising (lineDue .freeRun 0 0 0) .a).lle.y = 0 :=
  ⟨⟨_, next_of_completes (by decide)⟩, by decide, by decide, by decide, by decide, by decide, by decide, by decide⟩

set_option maxRecDepth 8000 in
/-- 01 R15, R17: the fourth class 525 in a row, at y′ = 264, makes 525 the working standard. -/
theorem test_field_start_detects_the_standard :
    let s := recognising (lineDue .locked 263 262 0) .a
    let t := after begins { s with sq := { s.sq with classes := List.replicate 3 .c525 } }
    t.sq.standard = .s525 ∧ t.cpr.attention.standardChanged = true := ⟨by decide, by decide⟩

theorem witness_FlywheelFieldStartAtFourLinesLate :
    let s := lineDue .locked 316 313 0
    (∃ t, exec begins s = .next t) ∧ s.settings.reference = .lock ∧ s.lle.lock ≠ .standby ∧ s.sq.recognition = none ∧
    s.lle.y + 1 = s.lle.fieldLines + 4 :=
  ⟨⟨_, next_of_completes (by decide)⟩, by decide, by decide, by decide, by decide⟩

theorem witness_RealignmentRenumbersTheField :
    let s := recognising (lineDue .locked 4 313 1) .a
    (∃ t, exec begins s = .next t) ∧ s.settings.reference = .lock ∧ s.lle.lock ≠ .standby ∧
    s.sq.recognition = some .a ∧ 0 < s.lle.realign :=
  ⟨⟨_, next_of_completes (by decide)⟩, by decide, by decide, by decide, by decide⟩

theorem witness_FreeFieldStartAndPlainLines :
    (∃ t, exec begins (lineDue .standby 313 312 0) = .next t) ∧
    ((lineDue .standby 313 312 0).lle.lock = .standby ∧
      (lineDue .standby 313 312 0).lle.fieldLines + 2 ≤ (lineDue .standby 313 312 0).lle.y + 1) ∧
    ((lineDue .standby 312 312 0).lle.y + 1 < (lineDue .standby 312 312 0).lle.fieldLines + 2) ∧
    ([315, 317] : List Nat).all (fun y =>
      let s := lineDue .locked y 313 0
      decide (s.settings.reference = .lock ∧ s.lle.lock ≠ .standby ∧ s.sq.recognition = none ∧
        s.lle.y + 1 ≠ s.lle.fieldLines + 4 ∧ s.lineStartDue = true)) = true :=
  ⟨⟨_, next_of_completes (by decide)⟩, by decide, by decide, by decide⟩

set_option maxRecDepth 8000 in
/-- 02 R40: the line at y = 3 carries the field step, and not in STANDBY; 02 R35: a field start at y′ = 314 hands a
length of 314 − 2 lines. -/
theorem test_line_start_steps_and_hands_lengths :
    (after begins (lineDue .locked 2 313 0)).lle.stepTaken = true ∧
    (after begins (lineDue .standby 2 313 0)).lle.stepTaken = false ∧
    (after begins (recognising (lineDue .locked 313 313 0) .b)).sq.lengths = [some 312] :=
  ⟨by decide, by decide, by decide⟩

theorem witness_PredictedLengthOfAField :
    ({ up.sq with lengths := [none, some 312], classes := [.irregular, .c625] } : SyncQualifier).lengths =
      [none, some 312] ∧
    FieldClass.c625 ≠ FieldClass.irregular ∧
    ({ up.sq with classes := [.c625, .irregular] } : SyncQualifier).classes = [.c625, .irregular] ∧
    ({ up.sq with lengths := [some 312, some 313], classes := [.c625] } : SyncQualifier).classes.length < 2 := by decide

/-- 01 R14 at the ends of each class. -/
theorem test_field_classes_at_their_ends :
    [249, 250, 275, 276, 299, 300, 330, 331].map (classOfLength .auto) =
      [.irregular, .c525, .c525, .irregular, .irregular, .c625, .c625, .irregular] ∧
    classOfLength .force525 312 = .irregular ∧ classOfLength .force625 262 = .irregular := by decide

theorem witness_PredictedLengthWithoutTwoEntries (a : Option Nat) (n : Nat) : up.sq.lengths ≠ [a, some n] := by
  simp [up, State.reset, SyncQualifier.initial]

/-- A field step's work to do: an ARMED title of kind FADE with GO. -/
def toStart (s : State) : State := place s 1 { fading .armed with marks := { Marks.empty with go := true } }

def internal (s : State) : State := { s with settings := { s.settings with reference := .internal } }

theorem witness_LineStartStepsAndMarksTheTitles :
    ((toStart (lineDue .locked 2 313 0)).lineStartDue = true ∧ (toStart (lineDue .locked 2 313 0)).titles.length = 24 ∧
      (toStart (lineDue .locked 2 313 0)).cpr.notices.length = 24) ∧
    [lineDue .locked 2 313 0, internal (lineDue .freeRun 2 313 0), lineDue .locked 316 313 0].all State.stepsField = true ∧
    [lineDue .standby 2 313 0, stepped (lineDue .locked 2 313 0), lineDue .locked 3 313 0].any State.stepsField = false := by
  decide

set_option maxRecDepth 8000 in
/-- 02 R36, R40: the flywheel's line at y = 4 does the field step, and a line after it does not. -/
theorem test_field_step_starts_the_title :
    ((after begins (toStart (lineDue .locked 2 313 0))).title 1).map (fun t => (t.phase, t.velocity, t.travel)) =
      some (.showing .entering, 16, 16) ∧
    ((after begins (toStart (lineDue .locked 316 313 0))).title 1).map Title.phase = some (.showing .entering) ∧
    ((after begins (toStart (lineDue .locked 3 313 0))).title 1).map Title.phase = some .armed :=
  ⟨by decide, by decide, by decide⟩

theorem witness_FieldStepStartsEntersAndTurns :
    (still.phase = .dormant ∧ (inPhase (.held .dwell)).phase = .held .dwell ∧
      (inPhase (.done .wasCut)).phase = .done .wasCut) ∧
    ((fading .armed).phase = .armed ∧ (fading .armed).marks.go = false ∧ (fading .armed).start ≠ .field 7 ∧
      ({ fading .armed with start := .field 7 } : Title).start = .field (7 : BitVec 16).toNat ∧
      (inPhase .armed).motion = .none ∧ (fading .armed).motion.ramp = some fadeRamp) ∧
    ((motionStep (fading (.showing .entering))).complete = false ∧
      (motionStep (fading (.showing .entering))).atStartRate = true ∧
      (motionStep { fading (.showing .entering) with velocity := 96 }).atStartRate = false ∧
      (motionStep { fading (.showing .entering) with travel := 1000 }).complete = true) ∧
    (still.disp.level = 63 ∧ ({ still with exitStep := 63 } : Title).exitStep = 63 ∧
      ({ fading (.showing .entering) with marks := { Marks.empty with endMark := true } } : Title).marks.endMark = true) ∧
    ((motionStep (fading (.showing .turning))).atStartRate = true ∧
      (motionStep { fading (.showing .turning) with travel := 500, velocity := 96 }).complete = false ∧
      (motionStep { fading (.showing .turning) with travel := 500, velocity := 96 }).atStartRate = false) := by decide

/-- 05 R91: the title rests two fields before it moves back. -/
theorem test_turning_rests_two_fields :
    (titleStep 0 (fading (.showing .turning))).1.turnPause = 2 ∧
    (titleStep 0 { fading (.showing .turning) with turnPause := 2 }).1.turnPause = 1 ∧
    (titleStep 0 { fading (.showing .turning) with turnPause := 1 }).1.phase = .showing (.leaving .reverse) := by decide

theorem witness_FieldStepDwellsAndLeaves :
    ((inPhase (.showing .dwell)).marks.endMark = false ∧
      ({ inPhase (.showing .dwell) with dwellLeft := 1 } : Title).dwellLeft = 1 ∧
      still.ending ≠ .command ∧ 0 < still.dwell ∧ still.exit = .cut) ∧
    ({ fading (.showing .dwell) with exit := .reverse } : Title).motion ≠ .none ∧
    ((inPhase (.showing (.leaving .fade))).exitStep < (inPhase (.showing (.leaving .fade))).disp.level ∧
      ({ inPhase (.showing (.leaving .fade)) with exitStep := 63 } : Title).disp.level = 63) ∧
    ((motionStep { fading (.showing (.leaving .reverse)) with travel := 16 }).title.travel = 0 ∧
      (motionStep { fading (.showing (.leaving .reverse)) with travel := 17 }).title.travel = 1 ∧
      (motionStep { fading (.showing (.leaving .reverse)) with travel := 17 }).atStartRate = true ∧
      (motionStep { fading (.showing (.leaving .reverse)) with travel := 900, velocity := 96 }).atStartRate = false) := by
  decide

/-- 05 R87, R89, R92: the last field of a dwell leaves, and the last drop of a fade ends the title COMPLETED. -/
theorem test_dwell_and_fade_end :
    (titleStep 0 { inPhase (.showing .dwell) with dwellLeft := 2 }).1.dwellLeft = 1 ∧
    titleStep 0 { inPhase (.showing .dwell) with dwellLeft := 1 } = (inPhase (.done .completed), [.left, .done]) ∧
    (titleStep 0 (inPhase (.showing (.leaving .fade)))).1.disp.level = 47 ∧
    (titleStep 0 { inPhase (.showing (.leaving .fade)) with exitStep := 63 }).1.phase = .done .completed := by decide

theorem witness_StandbyLineStartKeepsTheTitles :
    (∃ t, exec (.lineStart cuesLow false) (lineDue .standby 100 313 0) = .next t) ∧
    (lineDue .standby 100 313 0).lle.lock = .standby ∧ (lineDue .standby 100 313 0).aq.entries = [] ∧
    ({ lineDue .standby 313 312 0 with aq := { entries := [⟨0, 1, 5⟩], held := true } } : State).aq.held = true :=
  ⟨⟨_, next_of_completes (by decide)⟩, by decide, by decide, by decide⟩

/-- A cue line in INPUT, qualified HIGH, that has just been read LOW once. -/
def pressed (s : State) : State :=
  { s with clu := { s.clu with c1 := { role := .input, previous := some .low, qualified := .high } } }

/-- Cue line 1 in TALLY for a handle, qualified HIGH. -/
def tallied (s : State) (h : Nat) : State :=
  { s with clu := { s.clu with c1 := { role := .tally h, previous := some .high, qualified := .high } } }

/-- A dwell that ends, with auto-retire, at this line start's field step. -/
def ending : Title := { inPhase (.showing .dwell) with dwellLeft := 1, autoRetire := true }

theorem witness_CueLevelsQualifyAndEdgesMarkTitles :
    ((CueLine.initial.sampled .low).previous = some .low ∧ CueLine.initial.previous ≠ some .low) ∧
    ((pressed (lineDue .locked 100 313 0)).clu.get 1).hasEdge .low = true ∧
    ((pressed (lineDue .locked 100 313 0)).titles.length = 24 ∧ (pressed (lineDue .locked 100 313 0)).lineStartDue = true ∧
      ((pressed (lineDue .locked 100 313 0)).clu.get 0).role = .input) ∧
    (((tallied (lineDue .locked 2 313 0) 1).clu.get 1).role = .tally 1 ∧
      (tallied (lineDue .locked 2 313 0) 1).stepsField = true) ∧
    (({ inPhase .armed with start := .cue 1 } : Title).start = .cue 1 ∧
      ({ inPhase (.showing .dwell) with ending := .cue 1 } : Title).ending = .cue 1 ∧
      (inPhase .armed).start ≠ .cue 1 ∧ (inPhase (.showing .dwell)).ending ≠ .cue 1) := by decide

set_option maxRecDepth 8000 in
/-- 09 R157, 04 R71: a freed title's line is an INPUT line begun afresh, sampled after the step where the cue work comes
last. -/
theorem test_freed_title_gives_its_line_back :
    let s := tallied (place (lineDue .locked 2 313 0) 1 ending) 1
    (after (.lineStart cuesHigh true) s).clu.c1 = { role := .input, previous := none, qualified := .unknown } ∧
    (after (.lineStart cuesHigh false) s).clu.c1 = { role := .input, previous := some .high, qualified := .unknown } ∧
    (after (.lineStart cuesHigh true) s).title 1 = none :=
  ⟨by decide, by decide, by decide⟩

/-- 05 R99: one edge marks the ARMED title that starts on the line and the DWELL title that ends on it. -/
theorem test_cue_edge_marks_at_a_line_start :
    let s := place (place (pressed (lineDue .locked 100 313 0)) 1 { inPhase .armed with start := .cue 1 }) 2
      { inPhase (.showing .dwell) with ending := .cue 1 }
    let t := after (.lineStart cuesLow false) s
    (t.title 1).map (fun r => r.marks.go) = some true ∧ (t.title 2).map (fun r => r.marks.endMark) = some true := by
  decide

/-- A PXCK rising edge not yet sampled, with `n` samples since the CHS and a keying list. -/
def sampling (n : Nat) (spans : List Span) : State :=
  { up with
    stg := { up.stg with sampleDue := true, sampleCount := n }
    sbk := { up.sbk with keying := spans } }

theorem witness_PixelSampleIsNumberedAndKeyed :
    (sampling 1 [wholeLine]).pixelSampleDue = true ∧ ¬(2 < min (1 + 1) 2047) ∧
    (2 < min (2 + 1) 2047 ∧ min (2 + 1) 2047 - 2 - 1 < 640) ∧ (min (641 + 1) 2047 - 2 - 1 < 640) ∧
    ¬(min (642 + 1) 2047 - 2 - 1 < 640) ∧ deciding (sampling 2 []).sbk.keying 0 = none ∧
    deciding (sampling 641 [wholeLine]).sbk.keying 639 = some wholeLine ∧ wholeLine.keysOpaque 11 = false ∧
    wholeLine.keysOpaque 12 = true := by decide

/-- Entry 3 × 16 + 15 at mix 63 at the last pixel, and clear past it. -/
theorem test_pixel_sample_at_the_end_of_the_line :
    (after (.pixelSample 15) (sampling 641 [wholeLine])).sbk.handed = some (.overlaid 63 63) ∧
    (after (.pixelSample 15) (sampling 642 [wholeLine])).sbk.handed = some .clear ∧
    (after (.pixelSample 11) (sampling 641 [wholeLine])).sbk.handed = some .clear := by decide

theorem witness_KeyRuleComparesTheSelectedPlanes :
    wholeLine.sense = .normal ∧ ({ wholeLine with sense := .inverse } : Span).sense = .inverse := by decide

/-- 08 R143, the table's first two rows under both senses. -/
theorem test_key_rule_by_the_table :
    wholeLine.keysOpaque 9 = false ∧ wholeLine.keysOpaque 4 = true ∧
    ({ wholeLine with sense := .inverse } : Span).keysOpaque 9 = true ∧
    ({ wholeLine with colour := 3, mask := 0 } : Span).keysOpaque 11 = false := by decide

theorem witness_SpanListHoldsTheTopmostEight :
    (wholeLine.xl = max (0 : Int) 0) ∧
    (∃ sp, sp ∈ (place up 1 (inPhase (.showing .dwell))).spans .a 200) ∧
    ((place (place up 24 { inPhase (.showing .dwell) with place := { still.place with prio := 7 } }) 1
      (inPhase (.showing .dwell))).spans .a 200).map Span.handle = [24, 1] :=
  ⟨by decide, ⟨spanOf 640 (1, inPhase (.showing .dwell)), by decide⟩, by decide⟩

theorem witness_ChsLoadsTheLineAndOutputsFollowTheirRules :
    let s : State := { up with stg := { up.stg with awaiting := true, chsAt := some 0 } }
    (s.chsDue = true ∧ s.sbk.waiting = none) ∧
    (({ s with sbk := { s.sbk with waiting := some [wholeLine] } } : State).sbk.waiting = some [wholeLine]) ∧
    (at_ { up with stg := { up.stg with chsLowUntil := some 64 } } 64).chsPulseEndDue = true ∧
    (at_ { up with stg := { up.stg with chsLowUntil := some 64 } } 63).chsPulseEndDue = false ∧
    s.pins.resetLow = false ∧ ({ s with sq := { s.sq with parity := .b } } : State).cfld = .high ∧
    completes .chs s = true ∧ completes .chsPulseEnd (at_ { up with stg := { up.stg with chsLowUntil := some 64 } } 64) = true ∧
    ((lineDue .locked 100 313 0).stg.awaiting = false ∧ completes begins (lineDue .locked 100 313 0) = true) ∧
    completes .statusRead s = true := by decide

/-- 03 R45, R46: the carry of the tick just before keeps PXCK high over two ticks, and a CHS makes none of its own; 64 cc later
its pulse is at its end. -/
theorem test_outputs_follow_the_carry_and_the_chs :
    let s : State := { up with stg := { up.stg with awaiting := true, chsAt := some 0, cvsDone := false } }
    (handing .clear .locked).tick.pxck = .high ∧ (handing .clear .locked).tick.tick.pxck = .high ∧
    (handing .clear .locked).tick.tick.tick.pxck = .low ∧ (after .chs s).pxck = .low ∧ (after .chs s).chsOut = .low ∧
    (after .chs { s with lle := { s.lle with y := 2 } }).cvsOut = .low ∧
    (after .chs { s with lle := { s.lle with y := 1 } }).cvsOut = .high := by decide

/-- 03 R46: HPHASE 128 loads half a turn; the pulse lasts 64 cc. -/
theorem test_chs_loads_the_accumulator :
    let s : State := { up with stg := { up.stg with awaiting := true, chsAt := some 0, hphase := 128 } }
    (after .chs s).stg.accumulator = 2147483648 ∧ (after .chs s).stg.chsLowUntil = some 64 ∧
    (after .chsPulseEnd (at_ (after .chs s) 64)).chsOut = .high := by decide

theorem witness_ClockEventsFallDueAndElseStop :
    (pulse up .timing 16).qualificationDue = true ∧ (pulse up .timing 15).qualificationDue = false ∧
    (pulse up .qualified 1101).overlongDue = true ∧ (pulse up .qualified 1100).overlongDue = false ∧
    (gated 12288 true).lle.gateEdge = some { edge := 12288, halfWidth := 48 } ∧ up.lle.gateEdge = none ∧
    up.qualificationDue = false ∧ up.overlongDue = false ∧ up.runExpiryDue = false ∧ up.gateOpenDue = false ∧
    up.gateDecisionDue = false ∧ up.freeLineDue = false ∧ up.lineStartDue = false ∧ up.pixelSampleDue = false ∧
    up.chsDue = false ∧ up.chsPulseEndDue = false ∧ (csyncLow up).pins.csync = .low ∧ up.pins.csync = .high ∧
    (csyncLow up).sq.pulseState = .idle ∧
    ({ up with sq := { up.sq with pulseState := .waitHigh } } : State).sq.pulseState ≠ .idle := by decide

/-- 02 R22, R24: E = 524289 is 2048 1/256 cc. With G = 48 and F = 16 the gate opens at 2001, and at 2000 for E = 2048; its
decision expiry is 2113, also when GATE has become 8 while it was open; FREE-RUN decides the line at 2048. -/
theorem test_gate_and_free_line_fall_due :
    let narrow (s : State) : State := { s with settings := { s.settings with gate := 8 } }
    let free : State := { up with lle := { up.lle with edge := 524289 } }
    (at_ (gated 524289 false) 2000).gateOpenDue = false ∧ (at_ (gated 524289 false) 2001).gateOpenDue = true ∧
    (at_ (gated 524288 false) 1999).gateOpenDue = false ∧ (at_ (gated 524288 false) 2000).gateOpenDue = true ∧
    (at_ (narrow (gated 524289 true)) 2112).gateDecisionDue = false ∧
    (at_ (narrow (gated 524289 true)) 2113).gateDecisionDue = true ∧
    (at_ free 2047).freeLineDue = false ∧ (at_ free 2048).freeLineDue = true := by decide

/-! ### Witnesses: the port and the palette path -/

theorem witness_AttentionAnswersEveryCommand :
    State.reset.pins.resetLow = false ∧ State.reset.cpr.attention.any = true ∧
    Instr.lastByteOf (.arm 24) = some (.arm, 24) ∧ Command.arm ≠ .reportCondition ∧
    (collecting State.reset .arm []).Collects .arm [] ∧ ([] : List Byte).length + 1 = Command.arm.paramCount ∧
    Instr.wholeCommand .cutAll = some .cutAll ∧ Command.ofCode 0xFF = none ∧ Command.ofCode 0x0F = none ∧
    Command.ofCode 0x64 = none :=
  ⟨by decide, by decide, by decide, by decide, rfl, by decide, by decide, by decide, by decide, by decide⟩

theorem witness_PortWritesCollectAndAbandon :
    up.pins.resetLow = false ∧ Command.createTitle.paramCount ≠ 0 ∧
    (collecting up .createTitle (List.replicate 39 0)).Collects .createTitle (List.replicate 39 0) ∧
    (List.replicate 39 (0 : Byte)).length + 1 ≠ Command.createTitle.paramCount ∧ up.cpr.collecting = none ∧
    Command.ofCode 0xFF = none ∧ up.cpr.attention.any = false :=
  ⟨by decide, by decide, rfl, by decide, by decide, by decide, by decide⟩

/-- 11, the command code table: a code, its parameter bytes, and the last code of the table. -/
theorem test_command_codes :
    Command.ofCode 0x24 = some .halt ∧ Command.halt.paramCount = 2 ∧ Command.ofCode 0x63 = some .readNotices := by decide

/-- 11 R174: a second command byte abandons the first with PORT FAULT. -/
theorem test_command_byte_abandons_a_collection :
    (after (.commandByteWrite 0x11) (collecting up .createTitle [1])).cpr.portFault = true ∧
    (after (.commandByteWrite 0x11) (collecting up .createTitle [1])).cpr.collecting =
      some { command := .amendTitle, params := [] } := by decide

theorem test_parameter_byte_joins_the_command :
    (after (.parameterByteWrite 7) (collecting up .setMode [1])).cpr.collecting =
      some { command := .setMode, params := [1, 7] } := by decide

theorem test_stray_byte_is_a_port_fault : (after (.strayParameterByte 7) up).cpr.portFault = true := by decide

theorem test_unknown_command_is_refused : (after (.unknownCommand 0xFF) up).cpr.results = [2] := by decide

theorem witness_BytesActByTheStateOfCollection :
    Instr.lastByteOf .haltDecelerated = some (.halt, 1) ∧ (collecting up .halt [24]).Collects .halt [24] ∧
    ([24] : List Byte).length + 1 = Command.halt.paramCount ∧ up.cpr.collecting = none ∧
    ([] : List Byte).length + 1 ≠ Command.halt.paramCount ∧ (collecting up .halt []).Collects .halt [] ∧
    (collecting up .arm []).Collects .arm [] ∧ Command.arm ≠ Command.halt ∧
    Instr.wholeCommand .readNotices = some .readNotices :=
  ⟨by decide, rfl, by decide, by decide, by decide, rfl, rfl, by decide, by decide⟩

theorem witness_PortReadsReturnResultsAndStatus :
    up.pins.resetLow = false ∧ ({ up with cpr := { up.cpr with results := [2] } } : State).cpr.results = 2 :: [] ∧
    up.cpr.results = [] := by decide

/-- 11, the refused amendment: the last result byte, and then 00H with PORT FAULT. -/
theorem test_result_read_empties_and_faults :
    let s : State := { up with cpr := { up.cpr with results := [2] } }
    (after .resultRead s).cpr.readData = some 2 ∧ (after .resultRead (after .resultRead s)).cpr.readData = some 0 ∧
    (after .resultRead (after .resultRead s)).cpr.portFault = true := by decide

/-- 12: right after power-on the status byte is 50H. -/
theorem test_status_read_after_power_on : (after .statusRead State.reset).cpr.readData = some 0x50 := by decide

theorem witness_ResetLowIgnoresTheHostPort :
    (resetLow up).pins.resetLow = true ∧ Instr.isHostWrite (.paletteDataWrite 63) = true ∧
    Instr.isHostRead .resultRead = true := by decide

def palette (d : PaletteDirection) (c : ColourComponent) (isOpen : Bool) : State :=
  { up with op := { up.op with cursor := 63, direction := d, component := c, cycleOpen := isOpen
                               stagedR := some 63, stagedG := some 32 } }

theorem witness_PaletteCyclesLoadAndRead :
    up.pins.resetLow = false ∧
    ((palette .load .b true).op.cycleOpen = true ∧ (palette .load .b true).op.direction = .load ∧
      (palette .load .b true).op.component = .b ∧ (palette .load .b true).op.stagedR = some 63 ∧
      (palette .load .b true).op.stagedG = some 32) ∧
    ((palette .load .r true).op.component = .r ∧ (palette .load .g true).op.component = .g) ∧
    ((palette .read .r true).op.cycleOpen = true ∧ (palette .read .r true).op.direction = .read ∧
      (palette .read .r true).op.component = .r) ∧
    ((palette .read .g true).op.component = .g ∧ (palette .read .b true).op.component = .b) ∧
    (palette .load .r false).op.cycleOpen = false := by decide

/-- 08, "Worked example: loading and reading entries". -/
theorem test_palette_load_by_the_worked_example :
    let s := after (.paletteDataWrite 0xC5) (after (.paletteDataWrite 0x20) (after (.paletteDataWrite 0x3F)
      (after (.paletteAddressWrite 0x11) up)))
    s.op.entry 17 = { r := 63, g := 32, b := 5 } ∧ s.op.cursor = 18 := by decide

theorem test_palette_read_returns_the_components :
    (after .paletteDataRead (after (.paletteAddressWrite 0xBF) (after (.paletteDataWrite 7) (palette .load .b true)))).cpr.readData =
      some 63 ∧
    (after .paletteDataRead (palette .load .r true)).cpr.readData = some 0 ∧
    (after .paletteDataRead (palette .load .r true)).op.cycleOpen = false := by decide

theorem test_palette_address_read_is_a_port_fault :
    (after .paletteAddressRead up).cpr.readData = some 0 ∧ (after .paletteAddressRead up).cpr.portFault = true := by
  decide

/-! ### Witnesses: the title table and sequencing -/

/-- A collected command waits for its last byte. -/
theorem awaits_collecting {s : State} {c : Command} {ps : List Byte} (p : s.Performs)
    (n : ps.length + 1 = c.paramCount) : (collecting s c ps).Awaits c ps := ⟨p, rfl, n⟩

theorem performs_up : up.Performs := ⟨by decide, by decide⟩

/-- The first 40 bytes of a creation block: priority 2, BOTH, top 200, height 20, left 100, width 200, key 0/15/NORMAL,
bank 0, level 63, kind NONE, and the choices COMMAND, DWELL and CUT. -/
def block (exitCode : Byte) : List Byte :=
  [2, 0, 200, 0, 20, 0, 100, 0, 200, 0, 0, 15, 0, 0, 63, 0, 0, 0, 0, 0, 0, 0, 0, 0, 0, 0, 0, 0, 0, 0, 0, 0,
   0, 0, 0, 3, 0, 0, exitCode, 16]

def fullTable : State := { up with titles := List.replicate 24 (some still) }

theorem witness_CreateTitleFillsTheLowestFreeRecord :
    (collecting up .createTitle (block 0)).Awaits .createTitle (block 0) ∧
    OutOfChoices (block 3 ++ [0]) 39 ∧ OutOfChoices (block 0 ++ [2]) 41 ∧
    (∀ k, ¬OutOfChoices (block 2 ++ [1]) k) ∧
    ClampedField 640 (((block 0).set 39 64) ++ [0]) 40 ∧
    (handles.all fun h => (fullTable.title h).isSome) = true ∧ up.titles.length = 24 ∧ up.title 1 = none ∧
    ({ fullTable with titles := List.replicate 23 (some still) ++ [none] } : State).title 24 = none ∧
    1 ≤ up.settings.pixTotal ∧ up.settings.pixTotal ≤ 1024 := by
  refine ⟨awaits_collecting performs_up (by decide), ?_, ?_, ?_, ?_, by decide, by decide, by decide, by decide,
    by decide, by decide⟩
  · right; right; right; right; right; right; right; left; decide
  · right; right; right; right; right; right; right; right; decide
  · rintro k (⟨rfl, h⟩ | ⟨rfl, h⟩ | ⟨rfl, h⟩ | ⟨rfl, h⟩ | ⟨rfl, h⟩ | ⟨rfl, h⟩ | ⟨rfl, h⟩ |
      ⟨rfl, h⟩ | ⟨rfl, h⟩) <;>
      revert h <;> decide
  · right; right; right; right; right; right; decide

/-- A block is in range at its limits: level 63 is kept, bank 4 is not. -/
theorem witness_ClampedFieldAtItsLimits :
    (∀ k, ¬ClampedField 640 (block 0 ++ [0]) k) ∧ ClampedField 640 (((block 0).set 13 4) ++ [0]) 14 := by
  refine ⟨?_, ?_⟩
  · intro k
    rintro (⟨p, hp, h⟩ | h)
    · have := hp.prio
      have := hp.top
      have := hp.height
      have := hp.left
      have := hp.width
      simp_all [block, byteAt, wordAt, within]
    · rcases h with ⟨rfl | rfl, h⟩ | ⟨rfl, h⟩ | ⟨rfl, h⟩ | ⟨h, -⟩ | ⟨h, -⟩ | ⟨rfl, h⟩ <;> revert h <;> decide
  · right; right; left; decide

theorem test_create_title_answers_its_handle :
    (after (.createTitle 0) (collecting up .createTitle (block 0))).cpr.results = [0, 1] ∧
    (after (.createTitle 0) (collecting up .createTitle (block 0))).title 1 = some { still with dwell := 3 } ∧
    (after (.createTitle 0) (collecting fullTable .createTitle (block 0))).cpr.results = [2] := by decide

theorem test_create_title_clamps_and_refuses :
    (after (.createTitle 0) (collecting up .createTitle (9 :: (block 0).drop 1))).cpr.results = [1, 1] ∧
    (after (.createTitle 2) (collecting up .createTitle (block 0))).cpr.condition.param = 41 := by decide

theorem witness_TitleReportsAnswerFromTheTable :
    (collecting up .queryTitle []).Awaits .queryTitle [] ∧ up.title 0 = none ∧ up.title 25 = none ∧
    (place up 24 still).title 24 = some still ∧
    (collecting up .listTitles [0xFF]).Awaits .listTitles [0xFF] ∧ 0xFF + 256 * 1 < 512 ∧ 512 ≤ 0 + 256 * 2 ∧
    (collecting up .hitTest [1, 200, 0, 43]).Awaits .hitTest [1, 200, 0, 43] ∧
    (collecting up .hitTest [2, 200, 0, 43]).Awaits .hitTest [2, 200, 0, 43] :=
  ⟨awaits_collecting performs_up (by decide), by decide, by decide, by decide,
    awaits_collecting performs_up (by decide), by decide, by decide, awaits_collecting performs_up (by decide),
    awaits_collecting performs_up (by decide)⟩

theorem test_query_title_reports_the_block :
    let t := after (.queryTitle 1) (collecting (place up 1 still) .queryTitle [])
    t.cpr.results.length = 66 ∧ t.cpr.results.getD 8 0 = 200 ∧ t.cpr.results.getD 1 0 = 1 := by decide

theorem test_list_titles_counts_the_phase :
    (after (.listTitles 0) (collecting (place up 24 still) .listTitles [2])).cpr.results = [0, 1, 24] ∧
    (after (.listTitles 2) (collecting up .listTitles [0])).cpr.results = [2] := by decide

/-- 04 R70: pixel 299 is the last of a title at left 100 of width 200. -/
theorem test_hit_test_at_the_edge_of_a_title :
    let s := place up 7 (inPhase (.showing .dwell))
    (after (.hitTest 1) (collecting s .hitTest [0, 200, 0, 43])).cpr.results = [0, 7] ∧
    (after (.hitTest 1) (collecting s .hitTest [0, 200, 0, 44])).cpr.results = [0, 0] := by decide

theorem witness_NoticesAndEventsAreRecorded :
    (up.cpr.notices.length = 24 ∧ up.titles.length = 24) ∧
    ({ up with cpr := { up.cpr with enables := 0x80 } } : State).cpr.enables.has .titleActivity = true ∧
    up.cpr.enables.has .titleActivity = false ∧
    (.done ∈ [Notice.left, .done] ∧ ({ still with autoRetire := true } : Title).autoRetire = true) ∧
    ((tallied up 24).clu.get 1).role = .tally 24 := by decide

/-- 05 R100, 11 R184: TITLE ACTIVITY comes with a notice while it is enabled, and goes with the last. -/
theorem test_notice_raises_and_clearing_withdraws :
    let s : State := { up with cpr := { up.cpr with enables := 0x80 } }
    ((s.notify 24 .left).noticeSet 24).left = true ∧ (s.notify 24 .left).cpr.events = 0x80 ∧
    (up.notify 24 .left).cpr.events = 0 ∧ ((s.notify 24 .left).clearNotices 24).cpr.events = 0 := by decide

theorem witness_RetireFreesOrLeaves :
    (collecting up .retireTitle [24]).Awaits .retireTitle [24] ∧ up.title 24 = none ∧
    (place up 24 still).title 24 = some still ∧ still.phase = .dormant ∧
    (inPhase (.done .wasCut)).phase = .done .wasCut ∧ (inPhase (.showing .dwell)).phase.isShowing = true ∧
    (leaveTitle { inPhase (.showing .dwell) with autoRetire := true }).isSome = true ∧
    leaveTitle { inPhase (.showing .turning) with autoRetire := true } = none ∧ 2 ≤ (2 : Byte).toNat :=
  ⟨awaits_collecting performs_up (by decide), by decide, by decide, by decide, by decide, by decide, by decide,
    by decide, by decide⟩

theorem test_retire_immediate_frees :
    (after .retireTitleImmediate (collecting (place up 24 (inPhase (.showing .dwell))) .retireTitle [24])).title 24 =
      none := by decide

theorem test_retire_graceful_leaves_or_frees :
    ((after .retireTitleGraceful (collecting (place up 24 (inPhase (.showing .dwell))) .retireTitle [24])).title 24).map
      (fun t => t.marks.endMark && t.autoRetire) = some true ∧
    (after .retireTitleGraceful (collecting (place up 24 still) .retireTitle [24])).title 24 = none := by decide

theorem witness_ResetTitlesAndCutAll :
    up.Performs ∧ (up.titles.length = 24 ∧ up.cpr.notices.length = 24) ∧
    ((inPhase (.held .dwell)).phase.isShowing = true ∧ (inPhase .armed).phase.isShowing = false) ∧
    (ending.phase.isShowing = true ∧ ending.autoRetire = true ∧ (place up 24 ending).title 24 = some ending) ∧
    ((tallied (place up 24 ending) 24).clu.get 1).role = .tally 24 :=
  ⟨performs_up, by decide, by decide, by decide, by decide⟩

theorem test_reset_titles_frees_all : (after .resetTitles fullTable).titles = List.replicate 24 none := by decide

theorem test_cut_all_ends_the_showing_titles :
    let s := place (place up 1 (inPhase (.held .dwell))) 2 (inPhase .armed)
    ((after .cutAll s).title 1).map Title.phase = some (.done .wasCut) ∧
    ((after .cutAll s).title 2).map Title.phase = some .armed := by decide

/-- 05 R98, R92, 04 R71: a cut title with auto-retire is freed with its entry and its cue line, DONE and no LEFT noticed. -/
theorem test_cut_all_retires :
    let s := tallied (place up 24 ending) 24
    let t := after .cutAll { s with
      aq := { entries := [⟨24, 1, 7⟩, ⟨1, 1, 7⟩], held := true }, cpr := { s.cpr with enables := 0x80 } }
    t.title 24 = none ∧ t.noticeSet 24 = { NoticeSet.empty with done := true } ∧ t.aq.entries = [⟨1, 1, 7⟩] ∧
    (t.clu.get 1).role = .input ∧ t.cpr.events = 0x80 := by decide

theorem witness_SequencingCommandsAreRefusedByHandleAndPhase :
    Instr.lastByteOf (.rearm 24) = some (.rearm, 24) ∧ Command.rearm ∈ [Command.halt, .rearm] ∧
    (collecting up .rearm []).Awaits .rearm [] ∧ up.title 24 = none ∧ (place up 24 still).title 24 = some still ∧
    ¬still.phase.accepts .rearm ∧ (collecting up .halt [24]).Awaits .halt [24] ∧ ¬still.phase.accepts .halt ∧
    2 ≤ (2 : Byte).toNat :=
  ⟨by decide, by decide, awaits_collecting performs_up (by decide), by decide, by decide,
    by simp [Phase.accepts, still], awaits_collecting performs_up (by decide), by simp [Phase.accepts, still],
    by decide⟩

theorem witness_ArmDisarmStartAndRearm :
    (place up 24 still).title (24 : Byte).toNat = some still ∧ still.phase = .dormant ∧
    (inPhase .armed).phase = .armed ∧ (inPhase (.done .completed)).phase = .done .completed ∧
    (collecting (place up 24 still) .arm []).Awaits .arm [] ∧
    (collecting (place up 1 (inPhase .armed)) .disarm []).Awaits .disarm [] ∧
    (collecting (place up 1 still) .start []).Awaits .start [] ∧
    (collecting (place up 1 (inPhase (.done .completed))) .rearm []).Awaits .rearm [] :=
  ⟨by decide, by decide, by decide, by decide, awaits_collecting ⟨by decide, by decide⟩ (by decide),
    awaits_collecting ⟨by decide, by decide⟩ (by decide), awaits_collecting ⟨by decide, by decide⟩ (by decide),
    awaits_collecting ⟨by decide, by decide⟩ (by decide)⟩

/-- A one-parameter command given to title 1. -/
def told (t : Title) (c : Command) : State := collecting (place up 1 t) c []

def phaseOf (s : State) : Option Phase := (s.title 1).map Title.phase

theorem test_arm_arms : phaseOf (after (.arm 1) (told still .arm)) = some .armed := by decide

theorem test_disarm_clears_go :
    ((after (.disarm 1) (told { inPhase .armed with marks := { Marks.empty with go := true } } .disarm)).title 1).map
      (fun t => t.marks.go) = some false := by decide

theorem test_start_sets_go :
    ((after (.start 1) (told still .start)).title 1).map (fun t => (t.phase, t.marks.go)) = some (.armed, true) := by
  decide

theorem test_rearm_is_dormant_again :
    phaseOf (after (.rearm 1) (told (inPhase (.done .completed)) .rearm)) = some .dormant ∧
    (after (.rearm 1) (told still .rearm)).cpr.condition.code = 1 := by decide

theorem witness_LeaveAndResumeByPhase :
    (place up 24 still).title (24 : Byte).toNat = some still ∧ (told still .leave).Awaits .leave [] ∧
    (told still .resume).Awaits .resume [] ∧ (inPhase (.showing .entering)).exit = .cut ∧
    ({ inPhase (.held .entering) with leavePlanned := true, byCommand := true } : Title).leavePlanned = true ∧
    (inPhase (.held (.leaving .fade))).leavePlanned = false ∧
    ({ inPhase (.held .turning) with leavePlanned := true } : Title).leavePlanned = true ∧
    ({ inPhase (.held (.leaving .reverse)) with leavePlanned := true } : Title).phase = .held (.leaving .reverse) :=
  ⟨by decide, awaits_collecting ⟨by decide, by decide⟩ (by decide),
    awaits_collecting ⟨by decide, by decide⟩ (by decide), by decide, by decide, by decide, by decide, by decide⟩

theorem test_leave_by_phase :
    phaseOf (after (.leave 1) (told still .leave)) = some (.done .neverShown) ∧
    phaseOf (after (.leave 1) (told (inPhase (.showing .entering)) .leave)) = some (.done .leftOnCommand) ∧
    phaseOf (after (.leave 1) (told { inPhase (.showing .entering) with exit := .reverse } .leave)) =
      some (.showing .turning) := by decide

theorem test_resume_carries_out_a_planned_leave :
    ((after (.resume 1) (told { inPhase (.held .dwell) with leavePlanned := true } .resume)).title 1).map
      (fun t => (t.phase, t.marks.endMark)) = some (.showing .dwell, true) := by decide

/-- Log 24: a second LEAVE under exit REVERSE keeps END, and the leave it then plans is dropped at the RESUME. -/
theorem test_resume_drops_a_leave_planned_in_turning :
    let s := told { inPhase (.showing .entering) with exit := .reverse, marks := { Marks.empty with endMark := true } } .leave
    ((after (.leave 1) s).title 1).map (fun t => t.marks.endMark) = some true ∧
    ((after (.resume 1) (told { inPhase (.held .turning) with leavePlanned := true } .resume)).title 1).map
      (fun t => (t.phase, t.leavePlanned, t.marks.endMark)) = some (.showing .turning, false, false) := by decide

theorem witness_HaltHoldsAtOnceOrSlows :
    (place up 24 (fading (.showing .entering))).title (24 : Byte).toNat = some (fading (.showing .entering)) ∧
    (collecting (place up 24 (fading (.showing .entering))) .halt [24]).Awaits .halt [24] ∧
    (fading (.showing .entering)).marks.endMark = false ∧
    ¬((Course.dwell = .entering ∧ true = false) ∨ Course.dwell = .leaving .reverse ∨
      (Course.dwell = .turning ∧ (0 : Nat) = 0)) :=
  ⟨by decide, awaits_collecting ⟨by decide, by decide⟩ (by decide), by decide, by decide⟩

theorem test_halt_immediate_plans_the_leave :
    ((after .haltImmediate (collecting
      (place up 1 { inPhase (.showing .dwell) with marks := { Marks.empty with endMark := true } }) .halt [1])).title
        1).map (fun t => (t.phase, t.leavePlanned)) = some (.held .dwell, true) := by decide

theorem test_halt_decelerated_slows :
    ((after .haltDecelerated (collecting (place up 1 (fading (.showing .entering))) .halt [1])).title 1).map
      (fun t => (t.phase, t.haltPending)) = some (.showing .entering, true) := by decide

/-! ### Witnesses: the amendment queue -/

def queued (n : Nat) : List Entry := (List.range n).map fun k => { handle := 1 + k % 24, item := 1 + k / 24, value := 3 }

def withQueue (s : State) (es : List Entry) : State := { s with aq := { s.aq with entries := es } }

theorem witness_AmendmentsAreCheckedClampedAndStaged :
    (collecting (place up 24 still) .amendTitle [24, 28, 1]).Awaits .amendTitle [24, 28, 1] ∧
    ((28 : Byte).toNat = 28 ∧ 1 < (2 : Byte).toNat + 256 * (0 : Byte).toNat ∧
      ¬1 < (1 : Byte).toNat + 256 * (0 : Byte).toNat) ∧
    ((0 : Byte).toNat = 0 ∧ 28 < (29 : Byte).toNat) ∧
    up.title 25 = none ∧ (place up 24 still).title 24 = some still ∧
    ((inPhase (.showing .entering)).phase ≠ .dormant ∧ (inPhase (.showing .entering)).phase ≠ .armed) ∧
    (up.aq.stage ⟨24, 1, 7⟩).isSome = true ∧ (withQueue up (queued 32)).aq.stage ⟨24, 5, 7⟩ = none ∧
    ((withQueue up (queued 32)).aq.stage ⟨1, 1, 7⟩).isSome = true ∧
    (collecting up .setTiming [3, 255]).Awaits .setTiming [3, 255] ∧
    (queued 31).length < 32 ∧ (queued 32).length = 32 ∧
    (∃ e, e ∈ queued 32 ∧ e.handle = 1 ∧ e.item = 1) :=
  ⟨awaits_collecting ⟨by decide, by decide⟩ (by decide), by decide, by decide, by decide, by decide, by decide,
    by decide, by decide, by decide, awaits_collecting performs_up (by decide), by decide, by decide,
    ⟨⟨1, 1, 3⟩, by decide, rfl, rfl⟩⟩

/-- 07 R123: a creep of 300 is clamped to 255 at staging and completes ADJUSTED. -/
theorem test_amend_title_clamps_creep :
    let t := after (.amendTitle 1) (collecting (place up 24 still) .amendTitle [24, 20, 44])
    t.cpr.results = [1] ∧ t.aq.entries = [⟨24, 20, 255⟩] ∧ t.cpr.condition.param = 3 := by decide

/-- 11, "Worked sequence: a refused amendment read back". -/
theorem test_amend_title_refused_and_read_back :
    let s := withQueue (place up 6 (inPhase (.showing .entering))) (queued 5)
    let s1 : State := { s with lle := { s.lle with fieldCounter := 1200 } }
    let t := after (.amendTitle 0) (collecting s1 .amendTitle [6, 22, 1])
    t.cpr.results = [2] ∧
    (after (.reportCondition 10) (collecting t .reportCondition [])).cpr.results =
      [0, 2, 3, 3, 6, 0, 0, 0x11, 0xB0, 0x04, 5] := by decide

theorem test_set_timing_stages_under_handle_0 :
    (after (.setTiming 0) (collecting up .setTiming [2, 40])).aq.entries = [⟨0, 2, 31⟩] ∧
    (after (.setTiming 0) (collecting up .setTiming [4, 40])).cpr.results = [2] := by decide

theorem witness_CommitAppliesTheEntriesInOrder :
    up.aq.entries = [] ∧ up.aq.held = false ∧ (withQueue up (queued 1)).aq.entries ≠ [] ∧
    (up.title 24 = none) ∧ ((place up 24 still).title 24 = some still) ∧ still.permits 14 5 = false ∧
    still.permits 12 2 = true ∧ (inPhase (.held .dwell)).permits 12 2 = false ∧
    (fading .dormant).permits 21 5 = false := by decide

theorem test_commit_writes_drops_and_discards :
    let s := withQueue (place up 1 still) [⟨1, 14, 5⟩, ⟨1, 3, 300⟩, ⟨2, 3, 300⟩, ⟨0, 1, 9⟩]
    s.commit.aq.entries = [] ∧ s.commit.stg.hdelay = 9 ∧ (s.commit.noticeSet 1).dropped = true ∧
    (s.commit.title 1).map (fun t => (t.place.top, t.place.height, t.disp.top)) = some (300, 13, 300) := by decide

theorem witness_CommittedItemsArePermittedAndWritten :
    (still.phase = .dormant ∧ still.permits 22 0 = true ∧ (inPhase (.showing .dwell)).permits 22 0 = false) ∧
    ({ still with motion := .wipe .fromLeft fadeRamp } : Title).permits 13 2 = false ∧
    ({ still with motion := .rise .fromBelow fadeRamp 8 } : Title).permits 13 2 = true ∧
    (fading .dormant).permits 21 0 = false ∧ (fading .dormant).motion.ramp = some fadeRamp ∧
    ({ still with start := .field 7 } : Title).start = .field 7 ∧ still.permits 23 9 = false ∧
    (inPhase (.held (.leaving .fade))).phase = .held (.leaving .fade) := by decide

/-- 04 R64, 06 R116: an exit step committed to a DONE title that faded out computes its level again, and not while it fades. -/
theorem test_timeline_write_computes_the_geometry :
    let faded (p : Phase) : Title := { inPhase p with disp := { still.disp with level := 7 } }
    ((faded (.done .completed)).write 640 27 5).disp.level = 63 ∧ ((faded (.done .completed)).write 640 27 5).exitStep = 5 ∧
    ((faded (.showing (.leaving .fade))).write 640 27 5).disp.level = 7 := by decide

/-- 04 R59: a top of 312 leaves one line of height. 06 R118: T follows a course of 500. 06 R116: a fade keeps its level. -/
theorem test_write_clamps_and_carries_the_travel :
    (still.write 640 3 312).place.height = 1 ∧ (still.write 640 5 639).place.width = 1 ∧
    ({ fading (.showing .entering) with travel := 900 }.write 640 14 500).travel = 500 ∧
    ((fading (.showing .dwell)).write 640 14 500).travel = 500 ∧
    ({ inPhase (.showing (.leaving .fade)) with disp := { still.disp with level := 7 } }.write 640 11 50).disp.level = 7 := by
  decide

theorem witness_QueueCommandsHoldReportAndDiscard :
    up.Performs ∧ (collecting up .discardPending []).Awaits .discardPending [] ∧ (24 : Byte).toNat ≤ 24 ∧
    (255 : Byte).toNat = 255 ∧ 25 ≤ (25 : Byte).toNat ∧ (254 : Byte).toNat ≤ 254 :=
  ⟨performs_up, awaits_collecting performs_up (by decide), by decide, by decide, by decide, by decide⟩

theorem test_hold_and_apply :
    (after .holdAmendments up).aq.held = true ∧ (after .applyAmendments (after .holdAmendments up)).aq.held = false := by
  decide

theorem test_query_pending_lists_the_entries :
    (after .queryPending (withQueue up [⟨1, 3, 300⟩])).cpr.results = [0, 1, 0, 1, 3, 44, 1] := by decide

theorem test_discard_pending_counts :
    (after (.discardPending 255) (collecting (withQueue up (queued 32)) .discardPending [])).cpr.results = [0, 32] ∧
    (after (.discardPending 25) (collecting up .discardPending [])).cpr.results = [2] := by decide

/-! ### Witnesses: motion, settings, standby, cue lines, reports -/

theorem witness_MotionStepFollowsTheRamp :
    (fading (.showing .entering)).motion.ramp = some fadeRamp ∧ (fading (.showing .entering)).travel ≤ fadeRamp.course ∧
    ({ fading (.showing .entering) with creepLeft := 1 } : Title).creepLeft = 1 ∧
    (fading (.showing (.leaving .reverse))).phase = .showing (.leaving .reverse) ∧ 1 ≤ fadeRamp.decel := by decide

/-- 06 R112 to R115: at half the course the width is half, and a slide or a rise is half its reach away. -/
theorem test_formula_at_half_the_course :
    let half (m : Motion) : Display := ({ still with motion := m, travel := 504 } : Title).formula
    (half (.fade fadeRamp)).level = 31 ∧ (half (.wipe .fromRight fadeRamp)).left = 200 ∧
    (half (.wipe .fromRight fadeRamp)).width = 100 ∧ (half (.slide .fromLeft fadeRamp 300)).left = -50 ∧
    (half (.rise .fromBelow fadeRamp 30)).top = 215 := by decide

/-- 06 R103: the stopping distances of the fade ramp figure, and its step 14. -/
theorem test_motion_by_the_fade_ramp_figure :
    fadeRamp.stopping 16 = 0 ∧ fadeRamp.stopping 48 = 16 ∧ fadeRamp.stopping 64 = 48 ∧ fadeRamp.stopping 96 = 112 ∧
    (motionStep { fading (.showing .entering) with travel := 928, velocity := 96 }).title.travel = 992 ∧
    (motionStep { fading (.showing .entering) with travel := 928, velocity := 96 }).title.disp.level = 62 := by decide

theorem witness_SettingsAreCheckedClampedWrittenAndReported :
    (collecting up .setMode [13, 15]).Awaits .setMode [13, 15] ∧ up.lle.lock = .standby ∧
    (inLock up .locked).lle.lock ≠ .standby ∧ (collecting up .reportMode []).Awaits .reportMode [] ∧
    (collecting up .setEvents [255]).Awaits .setEvents [255] ∧ (15 : Byte).toNat < 16 ∧ 16 ≤ (16 : Byte).toNat ∧
    2 ≠ up.settings.standard.code ∧ (13 : Byte).toNat = 13 ∧ 13 < (14 : Byte).toNat :=
  ⟨awaits_collecting performs_up (by decide), by decide, by decide, awaits_collecting performs_up (by decide),
    awaits_collecting performs_up (by decide), by decide, by decide, by decide, by decide, by decide⟩

/-- 10 R166: a GATE of 0 becomes 8, and an HSPAN of 5000 becomes 2559. -/
theorem test_set_mode_clamps :
    (after (.setMode 0) (collecting up .setMode [8, 0])).settings.gate = 8 ∧
    (after (.setMode 0) (collecting up .setMode [8, 200])).settings.gate = 200 ∧
    (after (.setMode 19) (collecting up .setMode [5, 136])).lle.period = 655104 ∧
    (after (.setMode 19) (collecting (inLock up .locked) .setMode [5, 136])).cpr.condition.key = .notInStandby := by
  decide

theorem test_report_mode_reads_pixtotal :
    (after (.reportMode 3) (collecting up .reportMode [])).cpr.results = [0, 0x80, 2] := by decide

/-- 10 R168: items 14 to 17 are the event enables and the device items in force. -/
theorem test_report_mode_reads_the_device_items :
    let s : State := { up with
      cpr := { up.cpr with enables := 0x81 }, stg := { up.stg with hdelay := 1, vdelay := 2, hphase := 3 } }
    [14, 15, 16, 17].map s.settingOf = [0x81, 1, 2, 3] := by decide

theorem test_set_events_refuses_the_reserved_bits :
    (after (.setEvents 15) (collecting up .setEvents [255])).cpr.enables = 0x0FFF ∧
    (after (.setEvents 16) (collecting up .setEvents [255])).cpr.results = [2] := by decide

theorem witness_StandbyIsEnteredAndLeft :
    up.Performs ∧ up.lle.lock = .standby ∧ (inLock up .locked).Performs ∧ (inLock up .locked).lle.lock ≠ .standby ∧
    reached (at_ (inLock up .locked) 2047).sq.counter (wholePart (at_ (inLock up .locked) 2047).lle.edge) = false ∧
    reached (at_ (inLock up .locked) 2048).sq.counter (wholePart (at_ (inLock up .locked) 2048).lle.edge) = true :=
  ⟨performs_up, by decide, ⟨by decide, by decide⟩, by decide, by decide, by decide⟩

theorem test_enter_standby_decides_a_reached_line :
    (after .enterStandby (at_ (inLock up .locked) 2048)).lle.scheduled = some 2304 ∧
    (after .enterStandby up).cpr.condition.key = .wrongState := by decide

theorem test_leave_standby_runs_free : (after .leaveStandby up).lle.lock = .freeRun := by decide

theorem witness_CueLineRolesAreSetAndReported :
    (collecting (place up 24 still) .setCueLine [3, 1]).Awaits .setCueLine [3, 1] ∧ up.title 24 = none ∧
    (place up 24 still).title 24 ≠ none ∧ (up.clu.get 3).role = .input ∧
    (({ up with clu := { up.clu with c3 := CueLine.retaken (.tally 24) } } : State).clu.get 3).role = .tally 24 ∧
    4 ≤ (4 : Byte).toNat ∧ 2 ≤ (2 : Byte).toNat ∧ (3 : Byte).toNat = (3 : Fin 4).val ∧ up.Performs :=
  ⟨awaits_collecting ⟨by decide, by decide⟩ (by decide), by decide, by decide, by decide, by decide, by decide,
    by decide, by decide, performs_up⟩

theorem test_set_cue_line_nominates :
    ((after (.setCueLine 24) (collecting (place up 24 still) .setCueLine [3, 1])).clu.get 3).role = .tally 24 ∧
    (after (.setCueLine 24) (collecting up .setCueLine [3, 1])).cpr.results = [2] := by decide

theorem test_report_cue_lines : (after .reportCueLines up).cpr.results = [0, 0, 0, 2, 0, 0, 2, 0, 0, 2, 0, 0, 2] := by
  decide

theorem witness_ReportsReadTheConditionLockEventsAndNotices :
    State.reset.pins.resetLow = false ∧ (collecting State.reset .reportCondition []).Collects .reportCondition [] ∧
    up.Performs := ⟨by decide, rfl, performs_up⟩

/-- 11, "Sets": CUE3 is bit 11 of an event set; 04, "Choice codes": CUE3 is 4; STANDARD CHANGED alone is reasons byte 4. -/
theorem test_codes_of_sets :
    EventSet.has 0x0800 (.cue 3) = true ∧ EventSet.has 0x0400 (.cue 3) = false ∧ StartCond.code (.cue 3) = 4 ∧
    Attention.code { powerOn := false, pinReset := false, standardChanged := true } = 4 := by decide

/-- 11 R178: the reasons pending are returned and stay. -/
theorem test_report_condition_keeps_the_reasons :
    let t := after (.reportCondition 6) (collecting State.reset .reportCondition [])
    t.cpr.results = [0, 0, 0, 0, 0, 0, 1] ∧ t.cpr.attention.powerOn = true ∧
    (after (.reportCondition 0) (collecting State.reset .reportCondition [])).cpr.results.length = 5 := by decide

/-- 02 R42: the first REPORT LOCK of a run clears the statistics, the next does not. -/
theorem test_report_lock_clears_once :
    let s : State := { up with lle := { up.lle with slips := 3 } }
    (after .reportLock s).lle.slips = 0 ∧ (after .reportLock s).cpr.results.getD 13 0 = 3 ∧
    (after .reportLock { after .reportLock s with lle := { (after .reportLock s).lle with slips := 2 } }).lle.slips =
      2 := by decide

def noticing (s : State) : State :=
  { s with cpr := { s.cpr with
      enables := 0x81, events := 0x81, notices := { NoticeSet.empty with done := true } :: s.cpr.notices.drop 1 } }

theorem test_read_events_keeps_title_activity :
    (after .readEvents (noticing up)).cpr.results = [0, 0x81, 0] ∧ (after .readEvents (noticing up)).cpr.events = 0x80 := by
  decide

theorem test_read_notices_empties_the_store :
    (after .readNotices (noticing up)).cpr.results = [0, 1, 1, 8] ∧
    (after .readNotices (noticing up)).cpr.events = 0x01 := by decide

/-! ### Witnesses: the invariants -/

theorem witness_EveryStepKeepsEventsAdmitted :
    (noticing up).EventsAdmitted ∧ (∃ t, step (noticing up) = .next t) ∧
    (∃ t, step { noticing up with pending := [.readNotices] } = .next t) := by
  refine ⟨⟨by decide, by decide, ?_, by decide⟩, ⟨_, rfl⟩, ⟨_, rfl⟩⟩
  intro k h
  exact h

theorem witness_EveryStepKeepsTheQueueThePeriodAndTheSpans :
    (withQueue up (queued 32)).QueueWithinLimits ∧ up.PeriodWithinRange ∧
    (sampling 2 (List.replicate 8 wholeLine)).SpansWithinLimits ∧
    (∃ t, step { withQueue up (queued 32) with pending := [.queryPending] } = .next t) ∧
    (∃ t, step { sampling 2 (List.replicate 8 wholeLine) with pending := [.pixelSample 15] } = .next t) := by
  refine ⟨⟨by decide, by decide⟩, ⟨by decide, by decide⟩, ⟨?_, by decide⟩, ⟨_, rfl⟩, ⟨_, rfl⟩⟩
  intro spans h
  cases h

theorem witness_EveryStepKeepsTravelWithinTheCourse :
    (place up 24 { fading (.showing .entering) with travel := 1008 }).TravelWithinCourse ∧
    (∃ t, step (place up 24 { fading (.showing .entering) with travel := 1008 }) = .next t) := by
  refine ⟨?_, ⟨_, rfl⟩⟩
  intro t h
  simp [place, up, State.reset, initialTitles] at h
  simp [h, fading, still, Motion.course, Motion.ramp, fadeRamp]

end Sys2Proof.Tests
end

section
/-! ## When a clock event is due, and what its row does (01, 02, 03)

One equivalence for each of the ten predicates `…Due`, in the words of the spec's own rule, and the rows of the clock
by whether their event is due. -/

namespace Sys2Proof.Machine

open Sys2Proof

/-! ### Readings of the counter -/

theorem reached_iff (now due : Timestamp) : reached now due = true ↔ (now - due).toNat < 2 ^ 23 :=
  decide_eq_true_iff

theorem LockState.gated_iff (l : LockState) : l.gated = true ↔ l = .acquiring ∨ l = .locked ∨ l = .flywheel := by
  cases l <;> simp [LockState.gated]

theorem LockState.not_gated_iff (l : LockState) : l.gated = false ↔ l = .freeRun ∨ l = .standby := by
  cases l <;> simp [LockState.gated]

theorem State.gateWidth_of_edge {s : State} {g : GateEdge} (e : s.lle.gateEdge = some g) :
    s.gateWidth = g.halfWidth := by
  simp [State.gateWidth, e]

theorem State.gateWidth_of_no_edge {s : State} (e : s.lle.gateEdge = none) : s.gateWidth = s.settings.gate := by
  simp [State.gateWidth, e]

/-- The decision expiry as one number of cc (02 R22). -/
theorem State.gateDecidesAt_eq (s : State) :
    s.gateDecidesAt = BitVec.ofNat 24 (s.lle.edge.toNat / 256 + s.gateWidth + s.settings.filter + 1) := by
  rw [State.gateDecidesAt, wholePart, ← BitVec.ofNat_add]
  congr 1
  omega

/-! ### Due or not -/

theorem State.qualificationDue_iff (s : State) :
    s.qualificationDue = true ↔
      s.pins.resetLow = false ∧ s.sq.pulseState = .timing ∧
        reached s.sq.counter (s.sq.leading + BitVec.ofNat 24 s.sq.filterWidth) = true := by
  simp [State.qualificationDue, State.qualifiesAt, State.now, and_assoc]

theorem State.overlongDue_iff (s : State) :
    s.overlongDue = true ↔
      s.pins.resetLow = false ∧ s.sq.pulseState = .qualified ∧ reached s.sq.counter (s.sq.leading + 1101) = true := by
  simp [State.overlongDue, State.now, and_assoc]

theorem State.runExpiryDue_iff (s : State) :
    s.runExpiryDue = true ↔
      s.pins.resetLow = false ∧ ∃ r t, s.sq.run = some r ∧ r.expiry = some t ∧ reached s.sq.counter t = true := by
  unfold State.runExpiryDue
  cases run : s.sq.run with
  | none => simp
  | some r => cases expiry : r.expiry <;> simp [State.now, expiry]

theorem State.gateOpenDue_iff (s : State) :
    s.gateOpenDue = true ↔
      s.pins.resetLow = false ∧ s.lle.lock.gated = true ∧ s.lle.gateOpen = false ∧
        reached s.sq.counter
          (BitVec.ofNat 24 ((s.lle.edge.toNat + 255) / 256) - BitVec.ofNat 24 s.settings.gate) = true := by
  simp [State.gateOpenDue, State.gateOpensAt, State.now, and_assoc]

theorem State.gateDecisionDue_iff (s : State) :
    s.gateDecisionDue = true ↔
      s.pins.resetLow = false ∧ s.lle.lock.gated = true ∧ s.lle.gateOpen = true ∧
        reached s.sq.counter s.gateDecidesAt = true := by
  simp [State.gateDecisionDue, State.now, and_assoc]

theorem State.freeLineDue_iff (s : State) :
    s.freeLineDue = true ↔
      s.pins.resetLow = false ∧ s.lle.lock.gated = false ∧
        reached s.sq.counter (BitVec.ofNat 24 (s.lle.edge.toNat / 256)) = true := by
  simp [State.freeLineDue, wholePart, State.now, and_assoc]

theorem State.lineStartDue_iff (s : State) :
    s.lineStartDue = true ↔
      s.pins.resetLow = false ∧ ∃ t, s.lle.scheduled = some t ∧ reached s.sq.counter t = true := by
  unfold State.lineStartDue
  cases s.lle.scheduled <;> simp [State.now]

theorem State.chsDue_iff (s : State) :
    s.chsDue = true ↔
      s.pins.resetLow = false ∧ s.stg.awaiting = true ∧ ∃ t, s.stg.chsAt = some t ∧ reached s.sq.counter t = true := by
  unfold State.chsDue
  cases s.stg.chsAt <;> simp [State.now, and_assoc]

theorem State.chsPulseEndDue_iff (s : State) :
    s.chsPulseEndDue = true ↔
      s.pins.resetLow = false ∧ ∃ t, s.stg.chsLowUntil = some t ∧ reached s.sq.counter t = true := by
  unfold State.chsPulseEndDue
  cases s.stg.chsLowUntil <;> simp [State.now]

theorem State.pixelSampleDue_iff (s : State) :
    s.pixelSampleDue = true ↔
      s.pins.resetLow = false ∧ s.stg.sampleDue = true ∧ s.chsDue = false ∧ s.lineStartDue = false := by
  simp [State.pixelSampleDue, and_assoc]

/-! ### The rows of the clock, each by whether its event is due (log 3) -/

/-- A clock event does its work where it is due, and stops by name elsewhere (log 3). -/
def whenDue (due : Bool) (t : State) : Host.Outcome State Fault Refusal :=
  if due then .next t else .fault .eventNotDue

@[simp] theorem whenDue_true (t : State) : whenDue true t = .next t := rfl

@[simp] theorem whenDue_false (t : State) : whenDue false t = .fault .eventNotDue := rfl

/-- A clock event that completes was due. -/
theorem whenDue_eq_next_iff {due : Bool} {t u : State} : whenDue due t = .next u ↔ due = true ∧ u = t := by
  cases due <;> simp [eq_comm]

theorem exec_qualificationExpiry (s : State) : exec .qualificationExpiry s = whenDue s.qualificationDue s.qualify := rfl

theorem exec_overlongExpiry (s : State) :
    exec .overlongExpiry s = whenDue s.overlongDue (s.classify .overlong .overlong) := rfl

theorem exec_runExpiry (s : State) :
    exec .runExpiry s = whenDue s.runExpiryDue { s with sq := s.sq.afterRunExpiry } := rfl

theorem exec_gateOpen (s : State) :
    exec .gateOpen s =
      whenDue s.gateOpenDue
        { s with lle := { s.lle with
            gateOpen := true, gateEdge := some { edge := s.lle.edge, halfWidth := s.settings.gate } } } := rfl

theorem exec_gateDecisionExpiry (s : State) :
    exec .gateDecisionExpiry s = whenDue s.gateDecisionDue s.missingLine := rfl

theorem exec_freeLineDecision (s : State) :
    exec .freeLineDecision s = whenDue s.freeLineDue { s with lle := s.lle.decideWithoutEdge } := rfl

theorem exec_lineStart (s : State) (cues : CueLevels) (cueFirst : Bool) :
    exec (.lineStart cues cueFirst) s = whenDue s.lineStartDue (s.lineStart cues cueFirst) := rfl

theorem exec_pixelSample (s : State) (index : BitVec 4) :
    exec (.pixelSample index) s = whenDue s.pixelSampleDue (s.takeSample index) := rfl

theorem exec_chs (s : State) : exec .chs s = whenDue s.chsDue (s.emitChs s.lle.y s.stg.vdelay) := rfl

theorem exec_chsPulseEnd (s : State) :
    exec .chsPulseEnd s = whenDue s.chsPulseEndDue { s with stg := { s.stg with chsLowUntil := none } } := rfl

/-! ### The two rows of CSYNC, by the levels of the pins and the pulse state (01 R2) -/

theorem exec_csyncFallingEdge_of_low {s : State} (low : s.pins.csync = .low) :
    exec .csyncFallingEdge s = .fault .edgeCannotOccur := by
  change execCsyncFallingEdge s = _
  simp [execCsyncFallingEdge, low]

theorem exec_csyncFallingEdge_of_reset {s : State} (high : s.pins.csync = .high) (reset : s.pins.resetLow = true) :
    exec .csyncFallingEdge s = .next (s.csyncDuringReset .low) := by
  change execCsyncFallingEdge s = _
  simp [execCsyncFallingEdge, high, reset]

theorem exec_csyncFallingEdge_of_idle {s : State} (high : s.pins.csync = .high) (up : s.pins.resetLow = false)
    (idle : s.sq.pulseState = .idle) :
    exec .csyncFallingEdge s = .next { s.beginPulse with pins := { s.pins with csync := .low } } := by
  change execCsyncFallingEdge s = _
  simp [execCsyncFallingEdge, high, up, idle]

theorem exec_csyncFallingEdge_of_busy {s : State} (high : s.pins.csync = .high) (up : s.pins.resetLow = false)
    (busy : s.sq.pulseState ≠ .idle) : exec .csyncFallingEdge s = .fault .edgeCannotOccur := by
  change execCsyncFallingEdge s = _
  simp [execCsyncFallingEdge, high, up, busy]

theorem exec_csyncRisingEdge_of_high {s : State} (high : s.pins.csync = .high) :
    exec .csyncRisingEdge s = .fault .edgeCannotOccur := by
  change execCsyncRisingEdge s = _
  simp [execCsyncRisingEdge, high]

theorem exec_csyncRisingEdge_of_reset {s : State} (low : s.pins.csync = .low) (reset : s.pins.resetLow = true) :
    exec .csyncRisingEdge s = .next (s.csyncDuringReset .high) := by
  change execCsyncRisingEdge s = _
  simp [execCsyncRisingEdge, low, reset]

theorem exec_csyncRisingEdge_of_idle {s : State} (low : s.pins.csync = .low) (up : s.pins.resetLow = false)
    (idle : s.sq.pulseState = .idle) : exec .csyncRisingEdge s = .fault .edgeCannotOccur := by
  change execCsyncRisingEdge s = _
  simp [execCsyncRisingEdge, low, up, idle]

theorem exec_csyncRisingEdge_of_busy {s : State} (low : s.pins.csync = .low) (up : s.pins.resetLow = false)
    (busy : s.sq.pulseState ≠ .idle) :
    exec .csyncRisingEdge s = .next { s.endPulse with pins := { s.pins with csync := .high } } := by
  change execCsyncRisingEdge s = _
  simp [execCsyncRisingEdge, low, up, busy]

/-- Settles O32: each predicate by its own equivalence, and each row by whether its event is due. -/
theorem clockEventsFallDueAndElseStop : Obligations.ClockEventsFallDueAndElseStop := by
  refine ⟨fun now due => ⟨reached_iff now due, rfl⟩, fun t e l => ⟨rfl, rfl, rfl, rfl⟩, fun s => ?_⟩
  have decision : ∀ {g : Nat}, s.gateWidth = g →
      (s.gateDecisionDue = true ↔
        s.pins.resetLow = false ∧ (s.lle.lock = .acquiring ∨ s.lle.lock = .locked ∨ s.lle.lock = .flywheel) ∧
          s.lle.gateOpen = true ∧
          reached s.sq.counter (BitVec.ofNat 24 (s.lle.edge.toNat / 256 + g + s.settings.filter + 1)) = true) := by
    intro g width
    rw [s.gateDecisionDue_iff, s.gateDecidesAt_eq, width, s.lle.lock.gated_iff]
  exact ⟨s.lle.lock.gated_iff, fun _ e => State.gateWidth_of_edge e, State.gateWidth_of_no_edge,
    s.qualificationDue_iff, s.overlongDue_iff, s.runExpiryDue_iff,
    by rw [s.gateOpenDue_iff, s.lle.lock.gated_iff],
    fun _ e => decision (State.gateWidth_of_edge e), fun e => decision (State.gateWidth_of_no_edge e),
    by rw [s.freeLineDue_iff, s.lle.lock.not_gated_iff],
    s.lineStartDue_iff, s.chsDue_iff, s.chsPulseEndDue_iff, s.pixelSampleDue_iff,
    fun no => by rw [exec_qualificationExpiry, no, whenDue_false],
    fun no => by rw [exec_overlongExpiry, no, whenDue_false],
    fun no => by rw [exec_runExpiry, no, whenDue_false],
    fun no => by rw [exec_gateOpen, no, whenDue_false],
    fun no => by rw [exec_gateDecisionExpiry, no, whenDue_false],
    fun no => by rw [exec_freeLineDecision, no, whenDue_false],
    fun _ _ no => by rw [exec_lineStart, no, whenDue_false],
    fun _ no => by rw [exec_pixelSample, no, whenDue_false],
    fun no => by rw [exec_chs, no, whenDue_false],
    fun no => by rw [exec_chsPulseEnd, no, whenDue_false],
    exec_csyncFallingEdge_of_low, exec_csyncRisingEdge_of_high,
    exec_csyncFallingEdge_of_busy, exec_csyncRisingEdge_of_idle⟩

end Sys2Proof.Machine
end

section
/-! ## Pulses, classes and broad runs (01) -/

namespace Sys2Proof.Machine

open Sys2Proof

/-! ### The offer of a candidate writes the LLE and the port alone (02 R22) -/

theorem State.trackedEdge_frame (s : State) (t : Timestamp) (e : Int) :
    s.trackedEdge t e = { s with lle := (s.trackedEdge t e).lle, cpr := (s.trackedEdge t e).cpr } := by
  unfold State.trackedEdge
  dsimp only
  split
  · rfl
  · split <;> rfl

theorem State.acquiringEdge_frame (s : State) (e : Int) :
    s.acquiringEdge e = { s with lle := (s.acquiringEdge e).lle, cpr := (s.acquiringEdge e).cpr } := by
  unfold State.acquiringEdge
  dsimp only
  split
  · split <;> rfl
  · rfl

theorem State.acceptEdge_frame (s : State) (t : Timestamp) :
    s.acceptEdge t = { s with lle := (s.acceptEdge t).lle, cpr := (s.acceptEdge t).cpr } := by
  cases lock : s.lle.lock <;> simp only [State.acceptEdge, lock]
  case acquiring => rw [State.acquiringEdge_frame]
  case locked => rw [State.trackedEdge_frame]
  case flywheel => rw [State.trackedEdge_frame]

theorem State.offerCandidate_frame (s : State) (t : Timestamp) :
    s.offerCandidate t = { s with lle := (s.offerCandidate t).lle, cpr := (s.offerCandidate t).cpr } := by
  unfold State.offerCandidate
  split
  · exact State.acceptEdge_frame s t
  · rfl

/-- A qualification writes the pulse state and position, the LLE and the port (01 R4). -/
theorem State.qualify_frame (s : State) :
    s.qualify = { s.qualified with lle := s.qualify.lle, cpr := s.qualify.cpr } :=
  State.offerCandidate_frame s.qualified s.sq.leading

@[simp] theorem State.qualify_sq (s : State) :
    s.qualify.sq = { s.sq with pulseState := .qualified, position := s.judge s.sq.leading } := by
  rw [State.qualify_frame]; rfl

@[simp] theorem State.qualify_pins (s : State) : s.qualify.pins = s.pins := by
  rw [State.qualify_frame]; rfl

/-! ### The class of a width (01 R6) -/

theorem classOfWidth_eq {w : Nat} (top : w ≤ 111) : classOfWidth w = .eq := if_pos top

theorem classOfWidth_hs {w : Nat} (bottom : 112 ≤ w) (top : w ≤ 399) : classOfWidth w = .hs := by
  rw [classOfWidth, if_neg (by omega), if_pos top]

theorem classOfWidth_broad {w : Nat} (bottom : 400 ≤ w) (top : w ≤ 1100) : classOfWidth w = .broad := by
  rw [classOfWidth, if_neg (by omega), if_neg (by omega), if_pos top]

theorem classOfWidth_overlong {w : Nat} (bottom : 1101 ≤ w) : classOfWidth w = .overlong := by
  rw [classOfWidth, if_neg (by omega), if_neg (by omega), if_neg (by omega)]

/-- Every width but those from 400 to 1100 has a class other than BROAD. -/
theorem classOfWidth_ne_broad {w : Nat} (out : w < 400 ∨ 1100 < w) : classOfWidth w ≠ .broad := by
  unfold classOfWidth
  split
  · simp
  · split
    · simp
    · rw [if_neg (by omega)]; simp

/-! ### A class reaches the LLE and then the SQ (02 R28, 01 R6 to R9) -/

/-- The LLE searches: FREE-RUN under LOCK (02 R28). -/
def State.searches (s : State) : Bool :=
  decide (s.lle.lock = .freeRun ∧ s.settings.reference = .lock)

/-- A class other than HS empties the edge set of a search (02 R28). -/
theorem State.handClass_not_hs (s : State) {c : PulseClass} (t : Timestamp) (ne : c ≠ .hs) :
    s.handClass c t = { s with lle := if s.searches then { s.lle with edgeSet := [] } else s.lle } := by
  by_cases search : s.lle.lock = .freeRun ∧ s.settings.reference = .lock
  · cases c with
    | hs => exact absurd rfl ne
    | eq => simp [State.handClass, State.searches, search]
    | broad => simp [State.handClass, State.searches, search]
    | overlong => simp [State.handClass, State.searches, search]
  · simp [State.handClass, State.searches, search]

theorem State.handClass_hs (s : State) (t : Timestamp) :
    s.handClass .hs t = { s with lle := if s.searches then s.lle.searchEdge t else s.lle } := by
  by_cases search : s.lle.lock = .freeRun ∧ s.settings.reference = .lock <;>
    simp [State.handClass, State.searches, search]

@[simp] theorem State.handClass_sq (s : State) (c : PulseClass) (t : Timestamp) : (s.handClass c t).sq = s.sq := by
  by_cases hs : c = .hs
  · rw [hs, State.handClass_hs]
  · rw [State.handClass_not_hs s t hs]

theorem State.classify_not_hs (s : State) {c : PulseClass} (next : PulseState) (ne : c ≠ .hs) :
    s.classify c next =
      { s with
        sq := { s.sq.afterClass c with pulseState := next }
        lle := if s.searches then { s.lle with edgeSet := [] } else s.lle } := by
  simp [State.classify, State.handClass_not_hs s _ ne]

theorem State.classify_hs (s : State) (next : PulseState) :
    s.classify .hs next =
      { s with
        sq := { s.sq with run := none, hsReference := some s.sq.leading, pulseState := next }
        lle := if s.searches then s.lle.searchEdge s.sq.leading else s.lle } := by
  simp [State.classify, State.handClass_hs, SyncQualifier.afterClass]

/-- Every class but BROAD ends the broad run (01 R9). -/
theorem SyncQualifier.afterClass_run (q : SyncQualifier) {c : PulseClass} (ne : c ≠ .broad) :
    (q.afterClass c).run = none := by
  cases c with
  | broad => exact absurd rfl ne
  | _ => rfl

/-- No class but BROAD touches a recognition (01 R9). -/
theorem SyncQualifier.afterClass_recognition (q : SyncQualifier) {c : PulseClass} (ne : c ≠ .broad) :
    (q.afterClass c).recognition = q.recognition := by
  cases c with
  | broad => exact absurd rfl ne
  | _ => rfl

@[simp] theorem State.classify_sq (s : State) (c : PulseClass) (next : PulseState) :
    (s.classify c next).sq = { s.sq.afterClass c with pulseState := next } := by
  simp [State.classify]

/-! ### A rising edge in each pulse state (01 R2 to R7) -/

theorem State.endPulse_of_waitHigh {s : State} (p : s.sq.pulseState = .waitHigh) :
    s.endPulse = { s with sq := { s.sq with pulseState := .idle } } := by
  simp [State.endPulse, p]

theorem State.endPulse_of_overlong {s : State} (p : s.sq.pulseState = .overlong) :
    s.endPulse = { s with sq := { s.sq with pulseState := .idle } } := by
  simp [State.endPulse, p]

theorem State.endPulse_of_glitch {s : State} (p : s.sq.pulseState = .timing)
    (narrow : forward s.sq.leading s.sq.counter < s.sq.filterWidth) :
    s.endPulse = { s with sq := s.sq.afterGlitch } := by
  simp [State.endPulse, State.pulseWidth, p, narrow]

theorem State.endPulse_of_timed {s : State} (p : s.sq.pulseState = .timing)
    (wide : s.sq.filterWidth ≤ forward s.sq.leading s.sq.counter) :
    s.endPulse = s.qualify.classify (classOfWidth (forward s.sq.leading s.sq.counter)) .idle := by
  simp [State.endPulse, State.pulseWidth, p, Nat.not_lt.mpr wide]

theorem State.endPulse_of_qualified {s : State} (p : s.sq.pulseState = .qualified) :
    s.endPulse = s.classify (classOfWidth (forward s.sq.leading s.sq.counter)) .idle := by
  simp [State.endPulse, State.pulseWidth, p]

/-- A glitch ends a run whose expiry fell during it (01 R10). -/
theorem SyncQualifier.afterGlitch_expired {q : SyncQualifier} {r : BroadRun} (run : q.run = some r)
    (expired : r.expiry = none) : q.afterGlitch = { q with pulseState := .idle, run := none } := by
  simp [SyncQualifier.afterGlitch, run, expired]

/-- Any other glitch leaves nothing (01 R3). -/
theorem SyncQualifier.afterGlitch_unexpired {q : SyncQualifier} (live : ∀ r, q.run = some r → r.expiry ≠ none) :
    q.afterGlitch = { q with pulseState := .idle } := by
  cases run : q.run with
  | none => simp [SyncQualifier.afterGlitch, run]
  | some r =>
    have some_expiry : r.expiry.isNone = false := by
      rw [Option.isNone_eq_false_iff, ← Option.ne_none_iff_isSome]
      exact live r run
    simp [SyncQualifier.afterGlitch, run, some_expiry]

/-- Settles O6: a case for each pulse state in which an edge can occur, and for RESET low. -/
theorem edgesBeginAndDropPulses : Obligations.EdgesBeginAndDropPulses := by
  intro s
  refine ⟨fun high up idle => exec_csyncFallingEdge_of_idle high up idle, fun low up => ⟨?_, ?_, ?_⟩,
    fun low reset => exec_csyncRisingEdge_of_reset low reset,
    fun high reset => exec_csyncFallingEdge_of_reset high reset⟩
  · rintro (p | p)
    · rw [exec_csyncRisingEdge_of_busy low up (by simp [p]), State.endPulse_of_waitHigh p]
    · rw [exec_csyncRisingEdge_of_busy low up (by simp [p]), State.endPulse_of_overlong p]
  · intro p narrow live
    rw [exec_csyncRisingEdge_of_busy low up (by simp [p]), State.endPulse_of_glitch p narrow,
      SyncQualifier.afterGlitch_unexpired live]
  · intro r p narrow run expired
    rw [exec_csyncRisingEdge_of_busy low up (by simp [p]), State.endPulse_of_glitch p narrow,
      SyncQualifier.afterGlitch_expired run expired]

/-! ### Expiries (01 R7, R10) -/

/-- Without a pulse in progress the run expiry ends the run (01 R10). -/
theorem SyncQualifier.afterRunExpiry_at_rest {q : SyncQualifier}
    (rest : q.pulseState = .idle ∨ q.pulseState = .waitHigh) : q.afterRunExpiry = { q with run := none } := by
  rcases rest with p | p <;> simp [SyncQualifier.afterRunExpiry, p]

/-- A pulse in progress decides what becomes of the run (01 R10). -/
theorem SyncQualifier.afterRunExpiry_in_pulse {q : SyncQualifier} {r : BroadRun} (run : q.run = some r)
    (busy : q.pulseState = .timing ∨ q.pulseState = .qualified ∨ q.pulseState = .overlong) :
    q.afterRunExpiry = { q with run := some { r with expiry := none } } := by
  rcases busy with p | p | p <;> simp [SyncQualifier.afterRunExpiry, p, run]

/-- A rising edge at a width of F or more is taken as at a pulse that has just qualified (01 R4). -/
theorem exec_csyncRisingEdge_qualify {s : State} (low : s.pins.csync = .low) (up : s.pins.resetLow = false)
    (p : s.sq.pulseState = .timing) (wide : s.sq.filterWidth ≤ forward s.sq.leading s.sq.counter) :
    exec .csyncRisingEdge s = exec .csyncRisingEdge s.qualify := by
  have low' : s.qualify.pins.csync = .low := by rw [State.qualify_pins, low]
  have up' : s.qualify.pins.resetLow = false := by rw [State.qualify_pins, up]
  have p' : s.qualify.sq.pulseState = .qualified := by rw [State.qualify_sq]
  rw [exec_csyncRisingEdge_of_busy low up (by simp [p]), State.endPulse_of_timed p wide,
    exec_csyncRisingEdge_of_busy low' up' (by rw [p']; decide), State.endPulse_of_qualified p',
    State.qualify_pins, State.qualify_sq]

/-- A rising edge in QUALIFIED classes the pulse by its width (01 R6). -/
theorem exec_csyncRisingEdge_of_qualified {s : State} (low : s.pins.csync = .low) (up : s.pins.resetLow = false)
    (p : s.sq.pulseState = .qualified) :
    exec .csyncRisingEdge s =
      .next { s.classify (classOfWidth (forward s.sq.leading s.sq.counter)) .idle with
        pins := { s.pins with csync := .high } } := by
  rw [exec_csyncRisingEdge_of_busy low up (by simp [p]), State.endPulse_of_qualified p]

/-- Settles O7, by the class of the width and by the pulse state at the run expiry. -/
theorem pulsesAreClassedAndExpire : Obligations.PulsesAreClassedAndExpire := by
  intro s
  refine ⟨fun low up p wide => ⟨exec_csyncRisingEdge_qualify low up p wide, fun due => ?_⟩,
    fun low up p => ?_, fun due => ?_, fun due => ⟨fun rest => ?_, fun r run busy => ?_⟩⟩
  · rw [exec_qualificationExpiry, due, whenDue_true]
  · rw [exec_csyncRisingEdge_of_qualified low up p]
    refine ⟨fun top => ?_, fun bottom top => ?_, fun bottom top => ?_, fun bottom => ?_⟩
    · rw [classOfWidth_eq top, State.classify_not_hs s _ (by simp)]; rfl
    · rw [classOfWidth_hs bottom top, State.classify_hs]; rfl
    · rw [classOfWidth_broad bottom top, State.classify_not_hs s _ (by simp)]; rfl
    · rw [classOfWidth_overlong bottom, State.classify_not_hs s _ (by simp)]; rfl
  · rw [exec_overlongExpiry, due, whenDue_true, State.classify_not_hs s _ (by simp)]; rfl
  · rw [exec_runExpiry, due, whenDue_true, SyncQualifier.afterRunExpiry_at_rest rest]
  · rw [exec_runExpiry, due, whenDue_true, SyncQualifier.afterRunExpiry_in_pulse run busy]

/-- Settles O9: every class but BROAD ends the run and leaves the recognition. -/
theorem otherClassesEndTheBroadRun : Obligations.OtherClassesEndTheBroadRun := by
  rintro s t (⟨low, up, p, out, run⟩ | ⟨due, run⟩)
  · rw [exec_csyncRisingEdge_of_qualified low up p] at run
    obtain rfl := Host.Outcome.next.inj run
    have ne := classOfWidth_ne_broad out
    simp [SyncQualifier.afterClass_run _ ne, SyncQualifier.afterClass_recognition _ ne]
  · rw [exec_overlongExpiry, due, whenDue_true] at run
    obtain rfl := Host.Outcome.next.inj run
    simp [SyncQualifier.afterClass_run, SyncQualifier.afterClass_recognition]

/-! ### The broad run (01 R8, R11) -/

theorem SyncQualifier.runAfterBroad_of_none {q : SyncQualifier} (run : q.run = none) : q.runAfterBroad = q.newRun := by
  simp [SyncQualifier.runAfterBroad, run]

theorem SyncQualifier.runAfterBroad_apart {q : SyncQualifier} {r : BroadRun} (run : q.run = some r)
    (apart : forward r.last q.leading < 900 ∨ 1150 < forward r.last q.leading) : q.runAfterBroad = q.newRun := by
  simp only [SyncQualifier.runAfterBroad, run]
  exact if_neg (by omega)

theorem SyncQualifier.runAfterBroad_spaced {q : SyncQualifier} {r : BroadRun} (run : q.run = some r)
    (low : 900 ≤ forward r.last q.leading) (high : forward r.last q.leading ≤ 1150) :
    q.runAfterBroad =
      { r with count := r.count + 1, last := q.leading, expiry := some (q.leading + 1150) } := by
  simp only [SyncQualifier.runAfterBroad, run]
  exact if_pos ⟨low, high⟩

/-- The third pulse of a run that has not been recognised gives the recognition (01 R11). -/
theorem SyncQualifier.afterBroad_third {q : SyncQualifier} (third : q.runAfterBroad.count = 3)
    (first : q.runAfterBroad.recognised = false) :
    q.afterBroad =
      { q with
        run := some { q.runAfterBroad with recognised := true }
        recognition := some (parityOfFirst q.runAfterBroad.first) } :=
  if_pos ⟨third, first⟩

theorem SyncQualifier.afterBroad_other {q : SyncQualifier}
    (other : q.runAfterBroad.count ≠ 3 ∨ q.runAfterBroad.recognised = true) :
    q.afterBroad = { q with run := some q.runAfterBroad } :=
  if_neg fun ⟨third, first⟩ => by simp [third, first] at other

theorem parityOfFirst_eq (p : PulsePosition) : parityOfFirst p = if p = .atLine then .a else .b := by
  cases p <;> rfl

/-- A run that begins at this pulse gives no recognition (01 R8, R11). -/
theorem SyncQualifier.afterBroad_begins {q : SyncQualifier} (begins : q.runAfterBroad = q.newRun) :
    q.afterBroad = { q with run := some q.newRun } := by
  rw [SyncQualifier.afterBroad_other (by simp [begins, SyncQualifier.newRun]), begins]

/-- Settles O8, by whether the pulse begins a run or continues one at a spacing of 900 to 1150 cc. -/
theorem broadRunAndRecognition : Obligations.BroadRunAndRecognition := by
  intro q
  refine ⟨fun run => SyncQualifier.afterBroad_begins (SyncQualifier.runAfterBroad_of_none run),
    fun r run => ⟨fun apart => SyncQualifier.afterBroad_begins (SyncQualifier.runAfterBroad_apart run apart),
      fun low high => ⟨fun two first => ?_, fun other => ?_⟩⟩⟩
  · have on := SyncQualifier.runAfterBroad_spaced run low high
    rw [SyncQualifier.afterBroad_third (by simp [on, two]) (by simp [on, first]), on, parityOfFirst_eq]
  · have on := SyncQualifier.runAfterBroad_spaced run low high
    rw [SyncQualifier.afterBroad_other (by rw [on]; simpa using other), on]

/-! ### The position of a pulse (01 R5) -/

theorem State.judge_of_free {s : State} (free : s.lle.lock.gated = false) (t : Timestamp) :
    s.judge t = if s.nearReference t then .atLine else .offLine := by
  simp [State.judge, free]

theorem State.judge_of_gated {s : State} (gated : s.lle.lock.gated = true) (t : Timestamp) :
    s.judge t = if s.nearGate t then .atLine else .offLine := by
  simp [State.judge, gated]

theorem State.nearReference_of_none {s : State} (ref : s.sq.hsReference = none) (t : Timestamp) :
    s.nearReference t = false := by
  simp [State.nearReference, ref]

theorem State.nearReference_of_some {s : State} {ref : Timestamp} (e : s.sq.hsReference = some ref) (t : Timestamp) :
    s.nearReference t =
      decide (forward ref t % (s.lle.period / 256) ≤ s.settings.gate ∨
        s.lle.period / 256 - forward ref t % (s.lle.period / 256) ≤ s.settings.gate) := by
  simp [State.nearReference, e]

theorem admits_eq (edge : FineTime) (g : Nat) (t : Timestamp) :
    admits edge g t = decide ((signedGap (fine t) edge).natAbs ≤ 256 * g) := rfl

/-- The gate against which a pulse is judged: the latest that opened, or E and the G in force (01 R5). -/
theorem State.nearGate_eq (s : State) (t : Timestamp) :
    s.nearGate t =
      admits (s.lle.gateEdge.getD { edge := s.lle.edge, halfWidth := s.settings.gate }).edge
        (s.lle.gateEdge.getD { edge := s.lle.edge, halfWidth := s.settings.gate }).halfWidth t := by
  cases e : s.lle.gateEdge <;> simp [State.nearGate, e]

/-- A gate that is open has the half-width it opened with, and so takes no candidate beyond it (02 R22). -/
theorem State.gateWidth_eq (s : State) :
    s.gateWidth = (s.lle.gateEdge.getD { edge := s.lle.edge, halfWidth := s.settings.gate }).halfWidth := by
  cases e : s.lle.gateEdge <;> simp [State.gateWidth, e]

/-- The expiry of a pulse whose candidate no gate takes leaves it qualified and no more (01 R4, 02 R22). -/
theorem exec_qualificationExpiry_ignored {s : State} (due : s.qualificationDue = true)
    (out : s.lle.lock.gated = false ∨ s.lle.gateOpen = false ∨
      256 * s.gateWidth < (signedGap (fine s.sq.leading) s.lle.edge).natAbs) {p : PulsePosition}
    (position : s.judge s.sq.leading = p) :
    exec .qualificationExpiry s = .next { s with sq := { s.sq with pulseState := .qualified, position := p } } := by
  rw [exec_qualificationExpiry, due, whenDue_true, State.qualify_ignored out, State.qualified, position]

/-- Settles O10, by the two groups of lock states. -/
theorem qualificationRecordsThePosition : Obligations.QualificationRecordsThePosition := by
  intro s due
  refine ⟨fun free => ⟨fun ref => ?_, fun ref e => ⟨fun near => ?_, fun far far' => ?_⟩⟩, fun gated g hg out => ?_⟩
  · refine exec_qualificationExpiry_ignored due (.inl free) ?_
    simp [State.judge_of_free free, State.nearReference_of_none ref]
  · refine exec_qualificationExpiry_ignored due (.inl free) ?_
    simp only [State.judge_of_free free, State.nearReference_of_some e, near, decide_true, if_true]
  · refine exec_qualificationExpiry_ignored due (.inl free) ?_
    rw [State.judge_of_free free, State.nearReference_of_some e, if_neg (by simp; omega)]
  · have shut : s.lle.gateOpen = false ∨ 256 * s.gateWidth < (signedGap (fine s.sq.leading) s.lle.edge).natAbs := by
      rwa [State.gateWidth_eq, ← hg]
    refine ⟨fun near => exec_qualificationExpiry_ignored due (.inr shut) ?_,
      fun far => exec_qualificationExpiry_ignored due (.inr shut) ?_⟩
    · rw [State.judge_of_gated gated, State.nearGate_eq, ← hg, admits_eq, if_pos (decide_eq_true near)]
    · rw [State.judge_of_gated gated, State.nearGate_eq, ← hg, admits_eq, if_neg (by simpa using far)]

/-! ### The class and the prediction of a field length (01 R14, 02 R34) -/

theorem classOfLength_eq_c625_iff (setting : StandardSetting) (n : Nat) :
    classOfLength setting n = .c625 ↔ 300 ≤ n ∧ n ≤ 330 ∧ setting ≠ .force525 := by
  unfold classOfLength
  split
  · rename_i long
    exact iff_of_true rfl long
  · rename_i other
    exact iff_of_false (by split <;> simp) other

/-- The two ranges of lengths lie apart. -/
theorem classOfLength_eq_c525_iff (setting : StandardSetting) (n : Nat) :
    classOfLength setting n = .c525 ↔ 250 ≤ n ∧ n ≤ 275 ∧ setting ≠ .force625 := by
  unfold classOfLength
  split
  · rename_i long
    exact iff_of_false (by simp) (by omega)
  · split
    · rename_i short
      exact iff_of_true rfl short
    · rename_i other
      exact iff_of_false (by simp) other

theorem SyncQualifier.predicted_of_length {q : SyncQualifier} {a : Option Nat} {n : Nat} {c d : FieldClass}
    {rest : List FieldClass} (lengths : q.lengths = [a, some n]) (classes : q.classes = c :: d :: rest) :
    q.predicted = if d = .irregular then nominalLength q.standard q.parity else n := by
  simp [SyncQualifier.predicted, lengths, classes]

/-- Without a known older length the prediction is nominal (02 R34). -/
theorem SyncQualifier.predicted_of_unknown {q : SyncQualifier}
    (unknown : ∀ (a : Option Nat) (n : Nat), q.lengths ≠ [a, some n]) :
    q.predicted = nominalLength q.standard q.parity := by
  unfold SyncQualifier.predicted
  split
  · rename_i lengths _
    exact absurd lengths (unknown _ _)
  · rfl

/-- Without a second class the prediction is nominal (01 R16, 02 R34). -/
theorem SyncQualifier.predicted_of_few_classes {q : SyncQualifier} (few : q.classes.length < 2) :
    q.predicted = nominalLength q.standard q.parity := by
  unfold SyncQualifier.predicted
  split
  · rename_i classes
    simp [classes] at few
  · rfl

/-- Settles O22. -/
theorem predictedLengthOfAField : Obligations.PredictedLengthOfAField := by
  refine ⟨fun setting n => ⟨classOfLength_eq_c625_iff setting n, classOfLength_eq_c525_iff setting n⟩,
    fun q => ⟨fun a n c d rest lengths classes known => ?_, SyncQualifier.predicted_of_unknown,
      SyncQualifier.predicted_of_few_classes, fun c rest classes => ?_, rfl, rfl, rfl, rfl⟩⟩
  · rw [SyncQualifier.predicted_of_length lengths classes, if_neg known]
  · by_cases known : ∃ a n, q.lengths = [a, some n]
    · obtain ⟨a, n, lengths⟩ := known
      rw [SyncQualifier.predicted_of_length lengths classes, if_pos rfl]
    · exact SyncQualifier.predicted_of_unknown fun a n lengths => known ⟨a, n, lengths⟩

end Sys2Proof.Machine
end

section
/-! ## One cc, power-on and reset (01 R1, 03 R45, R56, 10 R170) -/

namespace Sys2Proof.Machine

open Sys2Proof

/-! ### One cc -/

theorem State.tick_of_reset {s : State} (reset : s.pins.resetLow = true) :
    s.tick = { s with sq := { s.sq with counter := s.sq.counter + 1 } } := by
  simp [State.tick, reset]

/-- With RESET high one cc advances the counter and the accumulator, and drives what was handed (03 R45, 08 R147). -/
theorem State.tick_of_up {s : State} (up : s.pins.resetLow = false) :
    s.tick =
      { s with
        sq := { s.sq with counter := s.sq.counter + 1 }, stg := s.stg.advance, sbk := s.driveSample.sbk } := by
  cases handed : s.sbk.handed <;> simp [State.tick, State.driveSample, up, handed]

theorem State.driveSample_none {s : State} (handed : s.sbk.handed = none) : s.driveSample = s := by
  simp [State.driveSample, handed]

theorem State.driveSample_clear {s : State} (handed : s.sbk.handed = some .clear) :
    s.driveSample = { s with sbk := { s.sbk with handed := none, col := s.op.entry 0, mix := 0 } } := by
  simp [State.driveSample, handed]

/-- In STANDBY every sample is palette entry 0 and MIX 0 (08 R146). -/
theorem State.driveSample_standby {s : State} {e m : Nat} (handed : s.sbk.handed = some (.overlaid e m))
    (standby : s.lle.lock = .standby) :
    s.driveSample = { s with sbk := { s.sbk with handed := none, col := s.op.entry 0, mix := 0 } } := by
  simp [State.driveSample, handed, standby]

theorem State.driveSample_overlaid {s : State} {e m : Nat} (handed : s.sbk.handed = some (.overlaid e m))
    (lock : s.lle.lock ≠ .standby) :
    s.driveSample = { s with sbk := { s.sbk with handed := none, col := s.op.entry e, mix := m } } := by
  simp [State.driveSample, handed, lock]

/-- Settles O3, by the level of RESET and by what was handed at the cc before. -/
theorem clockTickAdvancesCounterAndAccumulator : Obligations.ClockTickAdvancesCounterAndAccumulator := by
  intro s
  refine ⟨State.tick_of_reset, fun up => ⟨fun handed => ?_, fun handed => ?_, fun e m handed standby => ?_,
    fun e m handed lock => ?_⟩⟩
  · rw [State.tick_of_up up, State.driveSample_none handed]; rfl
  · rw [State.tick_of_up up, State.driveSample_clear handed]; rfl
  · rw [State.tick_of_up up, State.driveSample_standby handed standby]; rfl
  · rw [State.tick_of_up up, State.driveSample_overlaid handed lock]; rfl

/-! ### Power-on and pin reset -/

theorem pulseStateAt_eq (level : Level) : pulseStateAt level = if level = .low then .waitHigh else .idle := by
  cases level <;> rfl

theorem exec_powerOn (level : Level) (s : State) : exec (.powerOn level) s = .next (s.powerOn level) := rfl

theorem exec_pinReset (s : State) : exec .pinReset s = .next s.pinReset := rfl

theorem exec_pinResetStart (s : State) : exec .pinResetStart s = .next s.pinResetStart := rfl

/-- While RESET is low no cue line is driven (09 R162). -/
theorem State.driveLow_of_reset {s : State} (reset : s.pins.resetLow = true) (n : Fin 4) : s.driveLow n = false := by
  unfold State.driveLow
  split
  · rfl
  · split
    · rfl
    · simp [reset]

/-- The outputs that follow from the pin while RESET is low (03 R56, 11 R171). -/
theorem State.cfld_of_reset {s : State} (reset : s.pins.resetLow = true) : s.cfld = .low := by
  simp [State.cfld, reset]

theorem State.intLow_of_reset {s : State} (reset : s.pins.resetLow = true) : s.intLow = false := by
  simp [State.intLow, reset]

/-- Settles O4: the three power rows. -/
theorem powerOnAndPinReset : Obligations.PowerOnAndPinReset := by
  intro s
  refine ⟨fun level => ?_, ?_, s.pinResetStart, exec_pinResetStart s, ?_, rfl, rfl, rfl, State.cfld_of_reset rfl,
    State.intLow_of_reset rfl, State.driveLow_of_reset rfl⟩
  · rw [exec_powerOn, ← pulseStateAt_eq]; rfl
  · rw [exec_pinReset, ← pulseStateAt_eq]; rfl
  · rw [← pulseStateAt_eq]; rfl

/-- The cue lines at reset are alike: INPUT, with no level yet (09 R162). -/
theorem CueLines.initial_get (n : Fin 4) : CueLines.initial.get n = CueLine.initial := by
  fin_cases n <;> rfl

/-- Settles O5, table by table. -/
theorem resetLeavesTheTabledValues : Obligations.ResetLeavesTheTabledValues := by
  refine ⟨⟨rfl, rfl, rfl, rfl, rfl, rfl, rfl, rfl⟩, ?lle, ?stg, ⟨rfl, rfl, rfl⟩, ⟨rfl, rfl, rfl, rfl, rfl, rfl, rfl⟩,
    ⟨rfl, rfl, rfl, rfl, rfl, rfl, rfl⟩, fun n => ?clu, ⟨rfl, rfl, rfl, rfl, rfl, rfl, rfl, rfl, rfl, rfl, rfl⟩,
    rfl, rfl⟩
  case lle =>
    exact ⟨rfl, rfl, rfl, rfl, rfl, rfl, rfl, rfl, rfl, rfl, rfl, rfl, rfl, rfl, rfl, rfl, rfl, rfl, rfl, rfl, rfl, rfl,
      rfl⟩
  case stg => exact ⟨rfl, rfl, rfl, rfl, rfl, rfl, rfl, rfl, rfl, rfl, rfl, rfl, rfl, rfl, rfl, rfl⟩
  case clu =>
    have line : State.reset.clu.get n = CueLine.initial := CueLines.initial_get n
    rw [line]
    exact ⟨rfl, rfl, rfl⟩

end Sys2Proof.Machine
end

section
/-! ## What a line start reports, and the commit at it (02 R21, 07 R127, 08 R136, 09 R157) -/

namespace Sys2Proof.Machine

open Sys2Proof

/-! ### What the port sees of a step -/

/-- Between two states the port changes its events and notices alone, and of the events only those of the given
kinds. -/
structure State.Reports (kinds : EventKind → Prop) (s t : State) : Prop where
  port : t.cpr = { s.cpr with events := t.cpr.events, notices := t.cpr.notices }
  kept : ∀ k, ¬kinds k → t.cpr.events.has k = s.cpr.events.has k

namespace State.Reports

variable {kinds more : EventKind → Prop} {s t u : State}

theorem refl (kinds : EventKind → Prop) (s : State) : s.Reports kinds s := ⟨rfl, fun _ _ => rfl⟩

/-- A step that leaves the port reports nothing. -/
theorem of_cpr_eq (kinds : EventKind → Prop) (same : t.cpr = s.cpr) : s.Reports kinds t :=
  ⟨by rw [same], fun _ _ => by rw [same]⟩

theorem trans (a : s.Reports kinds t) (b : t.Reports kinds u) : s.Reports kinds u :=
  ⟨by rw [b.port, a.port], fun k no => (b.kept k no).trans (a.kept k no)⟩

theorem mono (a : s.Reports kinds t) (sub : ∀ k, kinds k → more k) : s.Reports more t :=
  ⟨a.port, fun k no => a.kept k fun yes => no (sub k yes)⟩

theorem enables (a : s.Reports kinds t) : t.cpr.enables = s.cpr.enables := by rw [a.port]

theorem attention (a : s.Reports kinds t) : t.cpr.attention = s.cpr.attention := by rw [a.port]

/-- A fold of steps that report some kinds reports those kinds. -/
theorem foldl {α : Type} (f : State → α → State) (each : ∀ (s : State) (a : α), s.Reports kinds (f s a)) (s : State)
    (l : List α) : s.Reports kinds (l.foldl f s) := by
  induction l generalizing s with
  | nil => exact refl kinds s
  | cons a rest ih => exact (each s a).trans (ih (f s a))

end State.Reports

theorem State.raise_reports (s : State) (k : EventKind) : s.Reports (· = k) (s.raise k) :=
  ⟨rfl, fun j ne => by simp [State.raise_has, ne]⟩

/-- An event raised after a step that leaves the port. -/
theorem State.Reports.raise_of_cpr_eq {s t : State} (same : t.cpr = s.cpr) (k : EventKind) :
    s.Reports (· = k) (t.raise k) :=
  (State.Reports.of_cpr_eq _ same).trans (State.raise_reports t k)

theorem State.setNotices_reports (kinds : EventKind → Prop) (s : State) (h : Nat) (n : NoticeSet) :
    s.Reports kinds (s.setNotices h n) := by
  unfold State.setNotices
  split
  · exact .refl kinds s
  · exact ⟨rfl, fun _ _ => rfl⟩

theorem State.notify_reports (s : State) (h : Nat) (n : Notice) : s.Reports (· = .titleActivity) (s.notify h n) :=
  (State.setNotices_reports _ s h _).trans (State.raise_reports _ _)

theorem State.settleTitle_reports (s : State) (h : Nat) (r : Title × List Notice) :
    s.Reports (· = .titleActivity) (s.settleTitle h r) := by
  have put : s.Reports (· = .titleActivity) (s.setTitle h (some r.1)) := .of_cpr_eq _ (by simp)
  have all : s.Reports (· = .titleActivity) ((s.setTitle h (some r.1)).notifyAll h r.2) :=
    put.trans (.foldl _ (fun s n => State.notify_reports s h n) _ _)
  unfold State.settleTitle
  dsimp only
  split
  · exact all.trans (.of_cpr_eq _ (by simp))
  · exact all

theorem State.fieldStep_reports (s : State) : s.Reports (· = .titleActivity) s.fieldStep := by
  unfold State.fieldStep
  refine .foldl _ (fun s h => ?_) s _
  split
  · exact .refl _ s
  · exact State.settleTitle_reports s h _

/-- One line's sample reports its own cue event at most (09 R157). -/
theorem State.cueSample_reports (s : State) (n : Fin 4) (level : Level) :
    s.Reports (fun k => ∃ n, k = .cue n) (s.cueSample n level) := by
  unfold State.cueSample
  dsimp only
  have raised : s.Reports (fun k => ∃ n, k = .cue n)
      (State.raise { s with clu := s.clu.put n ((s.clu.get n).sampled level) } (.cue n)) :=
    (State.Reports.raise_of_cpr_eq (by rfl) _).mono fun _ e => ⟨n, e⟩
  split
  · split
    · exact raised
    · exact raised.trans (.of_cpr_eq _ rfl)
  · exact .of_cpr_eq _ rfl

theorem State.cueWork_reports (s : State) : s.Reports (fun k => ∃ n, k = .cue n) s.cueWork :=
  (((State.cueSample_reports _ _ _).trans (State.cueSample_reports _ _ _)).trans (State.cueSample_reports _ _ _)).trans
    (State.cueSample_reports _ _ _)

/-- The work on titles and cue lines reports TITLE ACTIVITY and cue events at most (05 R100, 09 R157). -/
theorem State.stepAndCues_reports (s : State) (fieldStep cueFirst : Bool) :
    s.Reports (fun k => k = .titleActivity ∨ ∃ n, k = .cue n) (s.stepAndCues fieldStep cueFirst) := by
  have cue (s : State) : s.Reports (fun k => k = .titleActivity ∨ ∃ n, k = .cue n) s.cueWork :=
    s.cueWork_reports.mono fun _ => .inr
  have titles (s : State) : s.Reports (fun k => k = .titleActivity ∨ ∃ n, k = .cue n) s.fieldStep :=
    s.fieldStep_reports.mono fun _ => .inl
  unfold State.stepAndCues
  split
  · exact cue s
  · split
    · exact (cue s).trans (titles _)
    · exact (titles s).trans (cue _)

/-! ### The commit (07 R127, R128) -/

theorem applyEntry_reports (acc : State × Bool) (e : Entry) :
    acc.1.Reports (· = .titleActivity) (applyEntry acc e).1 := by
  obtain ⟨s, written⟩ := acc
  obtain ⟨-, eq⟩ | ⟨-, -, eq⟩ | ⟨t, -, -, -, eq⟩ | ⟨t, -, -, -, eq⟩ := applyEntry_cases s written e
  · exact .of_cpr_eq _ (by rw [eq])
  · exact .of_cpr_eq _ (by rw [eq])
  · exact .of_cpr_eq _ (by rw [eq]; simp)
  · rw [eq]; exact State.notify_reports s _ _

theorem applyEntries_reports (es : List Entry) (acc : State × Bool) :
    acc.1.Reports (· = .titleActivity) (es.foldl applyEntry acc).1 := by
  induction es generalizing acc with
  | nil => exact .refl _ _
  | cons e rest ih => exact (applyEntry_reports acc e).trans (ih _)

/-- The queue emptied, as a commit leaves it (07 R127). -/
def State.withEmptyQueue (s : State) : State :=
  { s with aq := { s.aq with entries := [] } }

theorem State.withEmptyQueue_reports (kinds : EventKind → Prop) (s : State) : s.Reports kinds s.withEmptyQueue :=
  .of_cpr_eq _ rfl

/-- A commit that takes place: the entries applied in turn, the queue emptied, and QUEUE DRAINED where an entry was
written (07 R127, R130). -/
theorem State.commit_of_waiting {s : State} (run : ¬(s.aq.held = true ∨ s.aq.entries = [])) :
    s.commit =
      let r := s.aq.entries.foldl applyEntry (s, false)
      if r.2 then r.1.withEmptyQueue.raise .queueDrained else r.1.withEmptyQueue := by
  rw [State.commit, if_neg run]
  rfl

theorem State.commit_of_idle {s : State} (idle : s.aq.held = true ∨ s.aq.entries = []) : s.commit = s := by
  rw [State.commit, if_pos idle]

theorem State.commit_reports (s : State) :
    s.Reports (fun k => k = .titleActivity ∨ k = .queueDrained) s.commit := by
  by_cases idle : s.aq.held = true ∨ s.aq.entries = []
  · rw [State.commit_of_idle idle]; exact .refl _ s
  · have applied := (applyEntries_reports s.aq.entries (s, false)).mono
      (more := fun k => k = .titleActivity ∨ k = .queueDrained) fun _ => .inl
    rw [State.commit_of_waiting idle]
    dsimp only
    have emptied := applied.trans (State.withEmptyQueue_reports _ _)
    split
    · exact emptied.trans ((State.raise_reports _ _).mono fun _ => .inr)
    · exact emptied

/-- Two STGs that differ in the device items at most (07 R125). -/
def SlaveTiming.SameButDevice (g h : SlaveTiming) : Prop :=
  h = { g with hdelay := h.hdelay, vdelay := h.vdelay, hphase := h.hphase }

theorem SlaveTiming.SameButDevice.trans {g h i : SlaveTiming} (a : g.SameButDevice h) (b : h.SameButDevice i) :
    g.SameButDevice i := by
  unfold SlaveTiming.SameButDevice at *
  rw [b, a]

theorem SlaveTiming.writeDevice_sameButDevice (g : SlaveTiming) (item value : Nat) :
    g.SameButDevice (g.writeDevice item value) := by
  unfold SlaveTiming.writeDevice
  split <;> rfl

theorem applyEntries_stg (es : List Entry) (acc : State × Bool) :
    acc.1.stg.SameButDevice (es.foldl applyEntry acc).1.stg := by
  induction es generalizing acc with
  | nil => rfl
  | cons e rest ih =>
    refine SlaveTiming.SameButDevice.trans ?_ (ih _)
    obtain ⟨s, written⟩ := acc
    obtain ⟨-, eq⟩ | ⟨-, -, eq⟩ | ⟨t, -, -, -, eq⟩ | ⟨t, -, -, -, eq⟩ := applyEntry_cases s written e
    · rw [eq]; exact SlaveTiming.writeDevice_sameButDevice _ _ _
    · rw [eq]; rfl
    · rw [eq, State.setTitle_stg]; rfl
    · rw [eq, State.notify_stg]; rfl

/-- Of the STG a commit writes the device items alone (07 R125). -/
theorem State.commit_stg (s : State) : s.stg.SameButDevice s.commit.stg := by
  by_cases idle : s.aq.held = true ∨ s.aq.entries = []
  · rw [State.commit_of_idle idle]; rfl
  · have applied := applyEntries_stg s.aq.entries (s, false)
    rw [State.commit_of_waiting idle]
    dsimp only
    split <;> exact applied

/-- Two states that a commit treats alike: the same records, STG, queue, settings and enables, and QUEUE DRAINED
pending in both or in neither. -/
structure State.CommitAlike (s t : State) : Prop where
  titles : t.titles = s.titles
  stg : t.stg = s.stg
  aq : t.aq = s.aq
  settings : t.settings = s.settings
  enables : t.cpr.enables = s.cpr.enables
  drained : t.cpr.events.has .queueDrained = s.cpr.events.has .queueDrained

theorem State.CommitAlike.title {s t : State} (a : s.CommitAlike t) (h : Nat) : t.title h = s.title h := by
  rw [State.title, State.title, a.titles]

theorem State.CommitAlike.setTitle {s t : State} (a : s.CommitAlike t) (h : Nat) (r : Option Title) :
    (s.setTitle h r).CommitAlike (t.setTitle h r) where
  titles := by unfold State.setTitle; split <;> simp [a.titles]
  stg := by simp [a.stg]
  aq := by simp [a.aq]
  settings := by simp [a.settings]
  enables := by simp [a.enables]
  drained := by simp [a.drained]

theorem State.CommitAlike.notify {s t : State} (a : s.CommitAlike t) (h : Nat) (n : Notice) :
    (s.notify h n).CommitAlike (t.notify h n) where
  titles := by simp [a.titles]
  stg := by simp [a.stg]
  aq := by simp [a.aq]
  settings := by simp [a.settings]
  enables := by simp [a.enables]
  drained := by
    rw [(t.notify_reports h n).kept _ (by simp), (s.notify_reports h n).kept _ (by simp), a.drained]

theorem State.CommitAlike.withEmptyQueue {s t : State} (a : s.CommitAlike t) :
    s.withEmptyQueue.CommitAlike t.withEmptyQueue :=
  ⟨a.titles, a.stg, by simp only [State.withEmptyQueue, a.aq], a.settings, a.enables, a.drained⟩

theorem State.CommitAlike.raiseDrained {s t : State} (a : s.CommitAlike t) :
    (s.raise .queueDrained).CommitAlike (t.raise .queueDrained) :=
  ⟨a.titles, a.stg, a.aq, a.settings, a.enables, by rw [State.raise_has, State.raise_has, a.drained, a.enables]⟩

theorem applyEntry_alike {acc acc' : State × Bool} (a : acc.1.CommitAlike acc'.1) (flag : acc'.2 = acc.2) (e : Entry) :
    (applyEntry acc e).1.CommitAlike (applyEntry acc' e).1 ∧ (applyEntry acc' e).2 = (applyEntry acc e).2 := by
  unfold applyEntry
  split
  · exact ⟨⟨a.titles, by rw [a.stg], a.aq, a.settings, a.enables, a.drained⟩, rfl⟩
  · rw [a.title e.handle, a.settings]
    split
    · exact ⟨a, flag⟩
    · split
      · exact ⟨a.setTitle _ _, rfl⟩
      · exact ⟨a.notify _ _, flag⟩

theorem applyEntries_alike (es : List Entry) {acc acc' : State × Bool} (a : acc.1.CommitAlike acc'.1)
    (flag : acc'.2 = acc.2) :
    (es.foldl applyEntry acc).1.CommitAlike (es.foldl applyEntry acc').1 ∧
      (es.foldl applyEntry acc').2 = (es.foldl applyEntry acc).2 := by
  induction es generalizing acc acc' with
  | nil => exact ⟨a, flag⟩
  | cons e rest ih =>
    obtain ⟨next, flag'⟩ := applyEntry_alike a flag e
    exact ih next flag'

theorem State.CommitAlike.commit {s t : State} (a : s.CommitAlike t) : s.commit.CommitAlike t.commit := by
  by_cases idle : s.aq.held = true ∨ s.aq.entries = []
  · rw [State.commit_of_idle idle, State.commit_of_idle (a.aq ▸ idle)]; exact a
  · obtain ⟨applied, flag⟩ := applyEntries_alike s.aq.entries (acc := (s, false)) (acc' := (t, false)) a rfl
    rw [State.commit_of_waiting idle, State.commit_of_waiting (a.aq ▸ idle), a.aq]
    dsimp only
    rw [flag]
    split
    · exact applied.withEmptyQueue.raiseDrained
    · exact applied.withEmptyQueue

/-! ### The span list (08 R136, R138, R140) -/

theorem placeCandidate_length (c : Candidate) (cs : List Candidate) :
    (placeCandidate c cs).length = cs.length + 1 := by
  induction cs with
  | nil => rfl
  | cons d rest ih => unfold placeCandidate; split <;> simp [ih]

/-- Ordering loses no candidate. -/
theorem State.ordered_length (s : State) (p : Parity) (y : Nat) :
    (s.ordered p y).length = (s.candidates p y).length := by
  have fold (cs placed : List Candidate) :
      (cs.foldl (fun cs c => placeCandidate c cs) placed).length = placed.length + cs.length := by
    induction cs generalizing placed with
    | nil => rfl
    | cons c rest ih => rw [List.foldl_cons, ih, placeCandidate_length, List.length_cons]; omega
  simpa [State.ordered] using fold (s.candidates p y) []

/-- More candidates than a span list holds (08 R140). -/
def State.overfull (s : State) : Bool :=
  decide (8 < (s.candidates s.sq.parity s.lle.y).length)

/-- The span list built, and whether it is the first of the field that overflows (08 R136, R140). -/
theorem State.buildSpans_eq (s : State) :
    s.buildSpans =
      let built : State :=
        { s with sbk := { s.sbk with
            waiting := some (s.spans s.sq.parity s.lle.y)
            waitingMaster := s.settings.masterLevel
            overflowReported := s.sbk.overflowReported || s.overfull } }
      if s.overfull && !s.sbk.overflowReported then built.raise .spanOverflow else built := by
  cases full : s.overfull <;> cases reported : s.sbk.overflowReported <;>
    simp_all [State.buildSpans, State.overfull, State.ordered_length]

theorem State.buildSpans_sbk (s : State) :
    s.buildSpans.sbk =
      { s.sbk with
        waiting := some (s.spans s.sq.parity s.lle.y)
        waitingMaster := s.settings.masterLevel
        overflowReported := s.sbk.overflowReported || s.overfull } := by
  rw [State.buildSpans_eq]
  dsimp only
  split <;> rfl

theorem State.buildSpans_reports (s : State) : s.Reports (· = .spanOverflow) s.buildSpans := by
  rw [State.buildSpans_eq]
  dsimp only
  split
  · exact .raise_of_cpr_eq (by rfl) _
  · exact .of_cpr_eq _ rfl

theorem State.buildSpans_has_spanOverflow (s : State) :
    s.buildSpans.cpr.events.has .spanOverflow =
      (s.cpr.events.has .spanOverflow ||
        (s.overfull && !s.sbk.overflowReported && s.cpr.enables.has .spanOverflow)) := by
  rw [State.buildSpans_eq]
  dsimp only
  split
  · rename_i first
    rw [State.raise_has, first]
    simp
  · rename_i later
    simp [later]

/-! ### A line start after its vertical decision -/

/-- The kinds that a line start reports once its vertical decision is made. -/
def EventKind.afterDecision (k : EventKind) : Prop :=
  k = .titleActivity ∨ k = .queueDrained ∨ k = .spanOverflow ∨ ∃ n, k = .cue n

/-- The state of a line start after the commit that a field start event brings. -/
def State.committedLine (s : State) (cues : CueLevels) : State :=
  let d := (s.atLineStart cues).decideVertical
  if d.2.fieldStart then d.1.commit else d.1

theorem State.settledLine_eq (s : State) (cues : CueLevels) :
    s.settledLine cues =
      let t := (s.committedLine cues).emitAwaited s.lle.y s.stg.vdelay
      if (s.atLineStart cues).decideVertical.2.fieldStart then t.beginField else t := rfl

theorem State.committedLine_core (s : State) (cues : CueLevels) :
    (s.atLineStart cues).decideVertical.1.SameCore (s.committedLine cues) := by
  unfold State.committedLine
  dsimp only
  split
  · exact State.commit_core _
  · exact .refl _

theorem State.committedLine_reports (s : State) (cues : CueLevels) :
    (s.atLineStart cues).decideVertical.1.Reports (fun k => k = .titleActivity ∨ k = .queueDrained)
      (s.committedLine cues) := by
  unfold State.committedLine
  dsimp only
  split
  · exact State.commit_reports _
  · exact .refl _ _

/-- A CHS awaited, as a line start emits it: the STG and the span lists alone (03 R47, 08 R141). -/
theorem State.emitAwaited_eq (s : State) (line vdelay : Nat) :
    s.emitAwaited line vdelay =
      let late := decide (s.stg.awaiting = true ∧ s.stg.hdelay ≠ 0)
      { s with
        stg := if late then s.stg.emitChs s.sq.counter s.settings.cpixLat line vdelay else s.stg
        sbk := if late then s.sbk.takeWaiting else s.sbk } := by
  by_cases late : s.stg.awaiting = true ∧ s.stg.hdelay ≠ 0 <;>
    simp [State.emitAwaited, State.emitChs, State.now, late]

/-- What settles a line after the commit: a late CHS, and at a field start the flags of the field (03 R47, R50,
08 R140). -/
theorem State.settledLine_frame (s : State) (cues : CueLevels) :
    s.settledLine cues =
      { s.committedLine cues with stg := (s.settledLine cues).stg, sbk := (s.settledLine cues).sbk } := by
  rw [State.settledLine_eq, State.emitAwaited_eq]
  generalize s.committedLine cues = k
  dsimp only
  split <;> rfl

/-- Of a line's begin only the STG takes part (03 R44, R46). -/
theorem State.beginLine_frame (s : State) : s.beginLine = { s with stg := s.beginLine.stg } := rfl

@[simp] theorem State.settledLine_cpr (s : State) (cues : CueLevels) :
    (s.settledLine cues).cpr = (s.committedLine cues).cpr := by
  rw [State.settledLine_frame]

@[simp] theorem State.beginLine_cpr (s : State) : s.beginLine.cpr = s.cpr := by
  rw [State.beginLine_frame]

/-- What a line start reports after its vertical decision: what the commit, the span list, the field step and the cue
lines raise. -/
theorem State.lineStart_reports (s : State) (cues : CueLevels) (cueFirst : Bool) :
    (s.atLineStart cues).decideVertical.1.Reports EventKind.afterDecision (s.lineStart cues cueFirst) := by
  have committed := (s.committedLine_reports cues).mono (more := EventKind.afterDecision)
    fun _ e => e.elim .inl fun e => .inr (.inl e)
  have begun : (s.committedLine cues).Reports EventKind.afterDecision (s.settledLine cues).beginLine :=
    .of_cpr_eq _ (by simp)
  have built := (s.settledLine cues).beginLine.buildSpans_reports.mono (more := EventKind.afterDecision)
    fun _ e => .inr (.inr (.inl e))
  have worked := (State.stepAndCues_reports (s.settledLine cues).beginLine.buildSpans
    (s.atLineStart cues).decideVertical.2.fieldStep cueFirst).mono (more := EventKind.afterDecision)
    fun _ e => e.elim .inl fun e => .inr (.inr (.inr e))
  rw [State.lineStart_eq]
  exact ((committed.trans begun).trans built).trans worked

end Sys2Proof.Machine
end

section
/-! ## The vertical decision of a line start (01 R14 to R17, 02 R34 to R38) -/

namespace Sys2Proof.Machine

open Sys2Proof

/-! ### The standard test (01 R15, R17) -/

theorem agreedStandard_eq_s625_iff (cs : List FieldClass) :
    agreedStandard cs = some .s625 ↔ cs = List.replicate 4 .c625 := by
  unfold agreedStandard
  split <;> simp_all [List.replicate]

theorem agreedStandard_eq_s525_iff (cs : List FieldClass) :
    agreedStandard cs = some .s525 ↔ cs = List.replicate 4 .c525 := by
  unfold agreedStandard
  split <;> simp_all [List.replicate]

/-- The standard that the test leaves: the one that four agreeing classes show under AUTO, else the one before. -/
def State.tested (s : State) : LineStandard :=
  if s.settings.standard = .auto then (agreedStandard s.sq.classes).getD s.sq.standard else s.sq.standard

/-- The standard test writes the standard, and on a change the attention reason and STANDARD CHANGED (01 R15, R17). -/
theorem State.standardTest_eq (s : State) :
    s.standardTest =
      if s.tested = s.sq.standard then s
      else
        ({ s with
            sq := { s.sq with standard := s.tested }
            cpr := { s.cpr with attention := { s.cpr.attention with standardChanged := true } } } : State).raise
          .standardChanged := by
  unfold State.standardTest State.tested
  by_cases auto : s.settings.standard = .auto
  · cases agreed : agreedStandard s.sq.classes with
    | none => simp
    | some std => by_cases same : std = s.sq.standard <;> simp [auto, same]
  · cases agreed : agreedStandard s.sq.classes <;> simp [auto]

/-- The standard that the test leaves follows the classes (01 R15). -/
theorem State.tested_of625 {s : State} (auto : s.settings.standard = .auto)
    (agree : s.sq.classes = List.replicate 4 .c625) : s.tested = .s625 := by
  rw [State.tested, if_pos auto, (agreedStandard_eq_s625_iff _).mpr agree]; rfl

theorem State.tested_of525 {s : State} (auto : s.settings.standard = .auto)
    (agree : s.sq.classes = List.replicate 4 .c525) : s.tested = .s525 := by
  rw [State.tested, if_pos auto, (agreedStandard_eq_s525_iff _).mpr agree]; rfl

theorem State.tested_kept {s : State}
    (kept : s.settings.standard ≠ .auto ∨
      (s.sq.classes ≠ List.replicate 4 .c625 ∧ s.sq.classes ≠ List.replicate 4 .c525)) :
    s.tested = s.sq.standard := by
  unfold State.tested
  split
  · rename_i auto
    obtain ⟨no625, no525⟩ := kept.resolve_left (not_not.mpr auto)
    cases agreed : agreedStandard s.sq.classes with
    | none => rfl
    | some std =>
      cases std with
      | s625 => exact absurd ((agreedStandard_eq_s625_iff _).mp agreed) no625
      | s525 => exact absurd ((agreedStandard_eq_s525_iff _).mp agreed) no525
  · rfl

@[simp] theorem State.standardTest_sq (s : State) : s.standardTest.sq = { s.sq with standard := s.tested } := by
  rw [State.standardTest_eq]
  split
  · rename_i same
    rw [same]
  · rfl

theorem State.standardTest_attention (s : State) :
    s.standardTest.cpr.attention =
      { s.cpr.attention with
        standardChanged := s.cpr.attention.standardChanged || decide (s.tested ≠ s.sq.standard) } := by
  rw [State.standardTest_eq]
  split
  · rename_i same
    simp [same]
  · rename_i changed
    simp [changed]

theorem State.standardTest_has (s : State) (k : EventKind) :
    s.standardTest.cpr.events.has k =
      (s.cpr.events.has k ||
        (decide (k = .standardChanged) && s.cpr.enables.has .standardChanged &&
          decide (s.tested ≠ s.sq.standard))) := by
  rw [State.standardTest_eq]
  split
  · rename_i same
    simp [same]
  · rename_i changed
    rw [State.raise_has]
    simp [changed]

/-- The standard test leaves every block but the SQ and the port. -/
theorem State.standardTest_frame (s : State) :
    s.standardTest = { s with sq := s.standardTest.sq, cpr := s.standardTest.cpr } := by
  rw [State.standardTest_eq]
  split <;> rfl

/-! ### What a vertical decision can touch -/

/-- Between two states only what a vertical decision writes changes: the length histories, the standard and the parity
of the SQ, the field's items and counts of the LLE, and in the port the attention reasons and the
events STANDARD CHANGED and FIELD IRREGULAR. -/
structure State.DecisionFrame (s t : State) : Prop where
  frame : t = { s with sq := t.sq, lle := t.lle, cpr := t.cpr }
  sq : t.sq =
    { s.sq with
      lengths := t.sq.lengths, classes := t.sq.classes, standard := t.sq.standard, parity := t.sq.parity }
  lle : t.lle =
    { s.lle with
      y := t.lle.y, fieldLines := t.lle.fieldLines, closedLines := t.lle.closedLines, stepTaken := t.lle.stepTaken
      synthRun := t.lle.synthRun, realign := t.lle.realign, paritySure := t.lle.paritySure
      fieldCounter := t.lle.fieldCounter, verticalMisses := t.lle.verticalMisses
      irregularFields := t.lle.irregularFields }
  cpr : t.cpr = { s.cpr with attention := t.cpr.attention, events := t.cpr.events }
  events : ∀ k, k ≠ .standardChanged → k ≠ .fieldIrregular → t.cpr.events.has k = s.cpr.events.has k

namespace State.DecisionFrame

theorem refl (s : State) : s.DecisionFrame s := ⟨rfl, rfl, rfl, rfl, fun _ _ _ => rfl⟩

theorem trans {s t u : State} (a : s.DecisionFrame t) (b : t.DecisionFrame u) : s.DecisionFrame u where
  frame := b.frame.trans (by rw [a.frame])
  sq := b.sq.trans (by rw [a.sq])
  lle := b.lle.trans (by rw [a.lle])
  cpr := b.cpr.trans (by rw [a.cpr])
  events := fun k ne ne' => (b.events k ne ne').trans (a.events k ne ne')

end State.DecisionFrame

theorem State.standardTest_decision (s : State) : s.DecisionFrame s.standardTest where
  frame := by rw [State.standardTest_eq]; split <;> rfl
  sq := by rw [State.standardTest_sq]
  lle := by rw [State.standardTest_frame]
  cpr := by rw [State.standardTest_eq]; split <;> rfl
  events := fun k ne _ => by simp [State.standardTest_has, ne]

/-- The histories that a length joins as their newest entry (01 R14). -/
def State.withLength (s : State) (length : Option Nat) : State :=
  { s with sq := { s.sq with
      lengths := (length :: s.sq.lengths).take 2
      classes := (classOfEntry s.settings.standard length :: s.sq.classes).take 4 } }

/-- The histories in which a length takes the place of the newest entry (01 R14). -/
def State.withNewest (s : State) (length : Nat) : State :=
  { s with sq := { s.sq with
      lengths := some length :: s.sq.lengths.drop 1
      classes := classOfLength s.settings.standard length :: s.sq.classes.drop 1 } }

theorem State.handLength_eq (s : State) (length : Option Nat) :
    s.handLength length = (s.withLength length).standardTest := rfl

theorem State.withLength_decision (s : State) (length : Option Nat) : s.DecisionFrame (s.withLength length) :=
  ⟨rfl, rfl, rfl, rfl, fun _ _ _ => rfl⟩

theorem State.withNewest_decision (s : State) (length : Nat) : s.DecisionFrame (s.withNewest length) :=
  ⟨rfl, rfl, rfl, rfl, fun _ _ _ => rfl⟩

theorem State.handLength_decision (s : State) (length : Option Nat) : s.DecisionFrame (s.handLength length) :=
  (s.withLength_decision length).trans (State.standardTest_decision _)

theorem State.replaceLength_decision (s : State) (length : Nat) : s.DecisionFrame (s.replaceLength length) :=
  (s.withNewest_decision length).trans (State.standardTest_decision _)

theorem State.setParity_decision (s : State) (p : Parity) : s.DecisionFrame (s.setParity p) :=
  ⟨rfl, rfl, rfl, rfl, fun _ _ _ => rfl⟩

/-! ### FIELD IRREGULAR (02 R35, R37, R42) -/

theorem State.irregularField_lle (s : State) :
    s.irregularField.lle =
      { s.lle with
        irregularFields :=
          if s.lle.lock.lockedFlag then min 255 (s.lle.irregularFields + 1) else s.lle.irregularFields } := by
  unfold State.irregularField
  split <;> rfl

theorem State.irregularField_frame (s : State) :
    s.irregularField = { s with lle := s.irregularField.lle, cpr := s.irregularField.cpr } := by
  unfold State.irregularField
  split <;> rfl

@[simp] theorem State.irregularField_sq (s : State) : s.irregularField.sq = s.sq := by
  rw [State.irregularField_frame]

theorem State.irregularField_reports (s : State) : s.Reports (· = .fieldIrregular) s.irregularField := by
  unfold State.irregularField
  split
  · exact .raise_of_cpr_eq (by rfl) _
  · exact .refl _ s

theorem State.irregularField_has (s : State) :
    s.irregularField.cpr.events.has .fieldIrregular =
      (s.cpr.events.has .fieldIrregular || (s.lle.lock.lockedFlag && s.cpr.enables.has .fieldIrregular)) := by
  unfold State.irregularField
  split
  · rename_i locked
    rw [State.raise_has]
    simp [locked]
  · rename_i unlocked
    simp [unlocked]

theorem State.irregularField_decision (s : State) : s.DecisionFrame s.irregularField where
  frame := by unfold State.irregularField; split <;> rfl
  sq := by rw [State.irregularField_sq]
  lle := by rw [State.irregularField_lle]
  cpr := by unfold State.irregularField; split <;> rfl
  events := fun k _ ne => s.irregularField_reports.kept k ne

/-! ### The decisions (02 R35 to R38) -/

/-- A decision that ends with a write of the field's items. -/
theorem State.DecisionFrame.withField {s t : State} (a : s.DecisionFrame t) {l : LineLock}
    (field : l =
      { t.lle with
        y := l.y, fieldLines := l.fieldLines, closedLines := l.closedLines, stepTaken := l.stepTaken
        synthRun := l.synthRun, realign := l.realign, paritySure := l.paritySure, fieldCounter := l.fieldCounter
        verticalMisses := l.verticalMisses, irregularFields := l.irregularFields }) :
    s.DecisionFrame { t with lle := l } :=
  a.trans ⟨rfl, rfl, field, rfl, fun _ _ _ => rfl⟩

theorem State.realFieldStart_decision (s : State) (y' : Nat) (p : Parity) :
    s.DecisionFrame (s.realFieldStart y' p) := by
  have handed := s.handLength_decision (some (y' - 2))
  have judged : s.DecisionFrame
      (if y' = s.lle.fieldLines + 2 then s.handLength (some (y' - 2))
        else (s.handLength (some (y' - 2))).irregularField) := by
    split
    · exact handed
    · exact handed.trans (State.irregularField_decision _)
  exact (judged.trans (State.setParity_decision _ p)).withField rfl

theorem State.flywheelFieldStart_decision (s : State) : s.DecisionFrame s.flywheelFieldStart :=
  ((s.handLength_decision none).trans (State.setParity_decision _ s.sq.parity.other)).withField rfl

theorem State.realignment_decision (s : State) (y' : Nat) (p : Parity) : s.DecisionFrame (s.realignment y' p) :=
  (((s.replaceLength_decision (s.lle.closedLines + y' - 2)).trans (State.setParity_decision _ p)).trans
    (State.irregularField_decision _)).withField rfl

theorem State.freeFieldStart_decision (s : State) : s.DecisionFrame s.freeFieldStart :=
  (s.setParity_decision s.sq.parity.other).withField rfl

theorem State.plainLine_decision (s : State) (y' : Nat) : s.DecisionFrame (s.plainLine y').1 :=
  (State.DecisionFrame.refl s).withField rfl

theorem State.narrowWindow_decision (s : State) : s.DecisionFrame s.narrowWindow :=
  (State.DecisionFrame.refl s).withField rfl

/-- The pending recognition taken (02 R21). -/
def State.takeRecognition (s : State) : State :=
  { s with sq := { s.sq with recognition := none } }

theorem State.following_iff (s : State) :
    s.following = true ↔ s.settings.reference = .lock ∧ s.lle.lock ≠ .standby := by
  simp [State.following]

/-! One equation for each way in which a line begins. -/

theorem State.decideVertical_real {s : State} {p : Parity} (following : s.following = true)
    (recognised : s.sq.recognition = some p) (closed : s.lle.realign = 0) :
    s.decideVertical =
      (s.takeRecognition.realFieldStart (s.lle.y + 1) p, { fieldStart := true, fieldStep := false }) := by
  simp only [State.decideVertical, following, recognised, closed, if_true]; rfl

theorem State.decideVertical_realign {s : State} {p : Parity} (following : s.following = true)
    (recognised : s.sq.recognition = some p) (opened : s.lle.realign ≠ 0) :
    s.decideVertical =
      (s.takeRecognition.realignment (s.lle.y + 1) p, { fieldStart := false, fieldStep := false }) := by
  simp only [State.decideVertical, following, recognised, opened, if_true, if_false]; rfl

theorem State.decideVertical_flywheel {s : State} (following : s.following = true)
    (missing : s.sq.recognition = none) (late : s.lle.y + 1 = s.lle.fieldLines + 4) :
    s.decideVertical = (s.takeRecognition.flywheelFieldStart, { fieldStart := true, fieldStep := true }) := by
  simp only [State.decideVertical, following, missing, late, if_true]; rfl

theorem State.decideVertical_following {s : State} (following : s.following = true)
    (missing : s.sq.recognition = none) (other : s.lle.y + 1 ≠ s.lle.fieldLines + 4) :
    s.decideVertical = s.takeRecognition.narrowWindow.plainLine (s.lle.y + 1) := by
  simp only [State.decideVertical, following, missing, other, if_true, if_false]; rfl

theorem State.decideVertical_free {s : State} (free : s.following = false) (full : s.lle.fieldLines + 2 ≤ s.lle.y + 1) :
    s.decideVertical = (s.takeRecognition.freeFieldStart, { fieldStart := true, fieldStep := false }) := by
  simp only [State.decideVertical, free, full, if_true]; rfl

theorem State.decideVertical_plain {s : State} (free : s.following = false)
    (short : ¬s.lle.fieldLines + 2 ≤ s.lle.y + 1) :
    s.decideVertical = s.takeRecognition.plainLine (s.lle.y + 1) := by
  simp only [State.decideVertical, free, short, if_false]; rfl

/-- The six ways in which a line begins, with the conditions of each. -/
theorem State.decideVertical_cases (s : State) :
    (∃ p, s.following = true ∧ s.sq.recognition = some p ∧ s.lle.realign = 0 ∧
      s.decideVertical =
        (s.takeRecognition.realFieldStart (s.lle.y + 1) p, { fieldStart := true, fieldStep := false })) ∨
    (∃ p, s.following = true ∧ s.sq.recognition = some p ∧ s.lle.realign ≠ 0 ∧
      s.decideVertical =
        (s.takeRecognition.realignment (s.lle.y + 1) p, { fieldStart := false, fieldStep := false })) ∨
    (s.following = true ∧ s.sq.recognition = none ∧ s.lle.y + 1 = s.lle.fieldLines + 4 ∧
      s.decideVertical = (s.takeRecognition.flywheelFieldStart, { fieldStart := true, fieldStep := true })) ∨
    (s.following = true ∧ s.sq.recognition = none ∧ s.lle.y + 1 ≠ s.lle.fieldLines + 4 ∧
      s.decideVertical = s.takeRecognition.narrowWindow.plainLine (s.lle.y + 1)) ∨
    (s.following = false ∧ s.lle.fieldLines + 2 ≤ s.lle.y + 1 ∧
      s.decideVertical = (s.takeRecognition.freeFieldStart, { fieldStart := true, fieldStep := false })) ∨
    (s.following = false ∧ ¬s.lle.fieldLines + 2 ≤ s.lle.y + 1 ∧
      s.decideVertical = s.takeRecognition.plainLine (s.lle.y + 1)) := by
  cases following : s.following with
  | true =>
    cases recognition : s.sq.recognition with
    | some p =>
      by_cases closed : s.lle.realign = 0
      · exact .inl ⟨p, rfl, rfl, closed, State.decideVertical_real following recognition closed⟩
      · exact .inr (.inl ⟨p, rfl, rfl, closed, State.decideVertical_realign following recognition closed⟩)
    | none =>
      by_cases late : s.lle.y + 1 = s.lle.fieldLines + 4
      · exact .inr (.inr (.inl ⟨rfl, rfl, late, State.decideVertical_flywheel following recognition late⟩))
      · exact .inr (.inr (.inr (.inl ⟨rfl, rfl, late, State.decideVertical_following following recognition late⟩)))
  | false =>
    by_cases full : s.lle.fieldLines + 2 ≤ s.lle.y + 1
    · exact .inr (.inr (.inr (.inr (.inl ⟨rfl, full, State.decideVertical_free following full⟩))))
    · exact .inr (.inr (.inr (.inr (.inr ⟨rfl, full, State.decideVertical_plain following full⟩))))

/-- Whatever the vertical decision is, it takes the recognition and writes no more than a decision may. -/
theorem State.decideVertical_decision (s : State) : s.takeRecognition.DecisionFrame s.decideVertical.1 := by
  obtain ⟨p, -, -, -, eq⟩ | ⟨p, -, -, -, eq⟩ | ⟨-, -, -, eq⟩ | ⟨-, -, -, eq⟩ | ⟨-, -, eq⟩ | ⟨-, -, eq⟩ :=
    s.decideVertical_cases <;> rw [eq]
  · exact State.realFieldStart_decision _ _ p
  · exact State.realignment_decision _ _ p
  · exact State.flywheelFieldStart_decision _
  · exact (State.narrowWindow_decision _).trans (State.plainLine_decision _ _)
  · exact State.freeFieldStart_decision _
  · exact State.plainLine_decision _ _

@[simp] theorem State.plainLine_fieldStart (s : State) (y' : Nat) : (s.plainLine y').2.fieldStart = false := rfl

/-- A line start carries a field start event just where the spec's rules say so (02 R35, R36, R38). -/
theorem State.decideVertical_fieldStart (s : State) : s.decideVertical.2.fieldStart = s.startsField := by
  have free (f : s.following = false) : s.startsField = decide (s.lle.fieldLines + 2 ≤ s.lle.y + 1) :=
    if_neg (by rw [← s.following_iff, f]; exact Bool.false_ne_true)
  obtain ⟨p, f, r, n, eq⟩ | ⟨p, f, r, n, eq⟩ | ⟨f, r, n, eq⟩ | ⟨f, r, n, eq⟩ | ⟨f, n, eq⟩ | ⟨f, n, eq⟩ :=
    s.decideVertical_cases
  · rw [eq, State.startsField, if_pos (s.following_iff.mp f), r]; simp [n]
  · rw [eq, State.startsField, if_pos (s.following_iff.mp f), r]; simp [n]
  · rw [eq, State.startsField, if_pos (s.following_iff.mp f), r]; simp [n]
  · rw [eq, State.startsField, if_pos (s.following_iff.mp f), r, State.plainLine_fieldStart, decide_eq_false n]
  · rw [eq, free f, decide_eq_true n]
  · rw [eq, free f, decide_eq_false n, State.plainLine_fieldStart]

end Sys2Proof.Machine
end

section
/-! ## Field starts and re-alignments (02 R35 to R37) -/

namespace Sys2Proof.Machine

open Sys2Proof

/-! ### A length handed (01 R14, R15) -/

@[simp] theorem State.standardTest_lle (s : State) : s.standardTest.lle = s.lle := by
  rw [State.standardTest_frame]

@[simp] theorem State.standardTest_enables (s : State) : s.standardTest.cpr.enables = s.cpr.enables := by
  rw [s.standardTest_decision.cpr]

/-- The working standard follows a length that has been handed: `v` is the state with the length in its histories, and
`t` holds what the standard test has made of it (01 R15, R17, 11 R179). -/
theorem State.StandardFollows.of_test {s v t : State} (settings : v.settings = s.settings)
    (standard : v.sq.standard = s.sq.standard) (port : v.cpr = s.cpr) (classes : t.sq.classes = v.sq.classes)
    (tested : t.sq.standard = v.tested) (attention : t.cpr.attention = v.standardTest.cpr.attention)
    (event : t.cpr.events.has .standardChanged = v.standardTest.cpr.events.has .standardChanged) :
    s.StandardFollows t where
  of625 := fun auto agree => tested.trans (State.tested_of625 (settings ▸ auto) (classes ▸ agree))
  of525 := fun auto agree => tested.trans (State.tested_of525 (settings ▸ auto) (classes ▸ agree))
  kept := fun kept => by
    rw [tested, State.tested_kept (by rw [settings, ← classes]; exact kept), standard]
  reason := by rw [attention, State.standardTest_attention, port, standard, tested]
  event := by rw [event, State.standardTest_has, port, standard, tested]; simp

/-! ### FIELD IRREGULAR at a field start off its predicted line -/

/-- A field judged irregular where `off` (02 R35, R37). -/
def State.judgedIrregular (s : State) (off : Bool) : State :=
  if off then s.irregularField else s

@[simp] theorem State.judgedIrregular_sq (s : State) (off : Bool) : (s.judgedIrregular off).sq = s.sq := by
  cases off
  · rfl
  · exact s.irregularField_sq

theorem State.judgedIrregular_lle (s : State) (off : Bool) :
    (s.judgedIrregular off).lle =
      { s.lle with
        irregularFields :=
          if off && s.lle.lock.lockedFlag then min 255 (s.lle.irregularFields + 1) else s.lle.irregularFields } := by
  cases off
  · rfl
  · exact s.irregularField_lle

theorem State.judgedIrregular_reports (s : State) (off : Bool) :
    s.Reports (· = .fieldIrregular) (s.judgedIrregular off) := by
  cases off
  · exact .refl _ s
  · exact s.irregularField_reports

theorem State.judgedIrregular_has (s : State) (off : Bool) :
    (s.judgedIrregular off).cpr.events.has .fieldIrregular =
      (s.cpr.events.has .fieldIrregular || (off && s.lle.lock.lockedFlag && s.cpr.enables.has .fieldIrregular)) := by
  cases off
  · exact (Bool.or_false _).symm
  · exact s.irregularField_has

/-! ### A real field start (02 R35) -/

/-- A real field start: the length handed, the field judged, the parity set and the field's items written. -/
theorem State.realFieldStart_eq (s : State) (y' : Nat) (p : Parity) :
    s.realFieldStart y' p =
      let v := (s.withLength (some (y' - 2))).standardTest.judgedIrregular (decide (y' ≠ s.lle.fieldLines + 2))
      { v with
        sq := { v.sq with parity := p }
        lle := { v.lle with
          fieldCounter := v.lle.fieldCounter + 1, paritySure := true, synthRun := 0, y := 2, stepTaken := false
          fieldLines := SyncQualifier.predicted { v.sq with parity := p } } } := by
  by_cases onTime : y' = s.lle.fieldLines + 2
  · simp only [State.realFieldStart, State.handLength_eq, State.judgedIrregular, onTime, if_true, ne_eq, not_true,
      decide_false, Bool.false_eq_true, if_false]
    rfl
  · simp only [State.realFieldStart, State.handLength_eq, State.judgedIrregular, onTime, if_false, ne_eq,
      not_false_iff, decide_true, if_true]
    rfl

theorem State.realFieldStart_sq (s : State) (y' : Nat) (p : Parity) :
    (s.realFieldStart y' p).sq =
      { (s.withLength (some (y' - 2))).sq with
        standard := (s.withLength (some (y' - 2))).tested, parity := p } := by
  rw [State.realFieldStart_eq]; simp

theorem State.realFieldStart_lle (s : State) (y' : Nat) (p : Parity) :
    (s.realFieldStart y' p).lle =
      { s.lle with
        fieldCounter := s.lle.fieldCounter + 1, paritySure := true, synthRun := 0, y := 2, stepTaken := false
        fieldLines := (s.realFieldStart y' p).sq.predicted
        irregularFields :=
          if decide (y' ≠ s.lle.fieldLines + 2) && s.lle.lock.lockedFlag then min 255 (s.lle.irregularFields + 1)
          else s.lle.irregularFields } := by
  rw [State.realFieldStart_eq]
  simp only [State.judgedIrregular_lle, State.standardTest_lle]
  rfl

/-- Of the port a real field start writes what the standard test and the judged field do. -/
theorem State.realFieldStart_reports (s : State) (y' : Nat) (p : Parity) :
    (s.withLength (some (y' - 2))).standardTest.Reports (· = .fieldIrregular) (s.realFieldStart y' p) := by
  rw [State.realFieldStart_eq]
  exact (State.judgedIrregular_reports _ _).trans (.of_cpr_eq _ rfl)

theorem State.realFieldStart_has (s : State) (y' : Nat) (p : Parity) :
    (s.realFieldStart y' p).cpr.events.has .fieldIrregular =
      (s.cpr.events.has .fieldIrregular ||
        (decide (y' ≠ s.lle.fieldLines + 2) && s.lle.lock.lockedFlag && s.cpr.enables.has .fieldIrregular)) := by
  rw [State.realFieldStart_eq]
  simp only [State.judgedIrregular_has, State.standardTest_has, State.standardTest_lle, State.standardTest_enables]
  simp [State.withLength]

/-! ### A field start made by the vertical flywheel (02 R36) -/

theorem State.flywheelFieldStart_sq (s : State) :
    s.flywheelFieldStart.sq =
      { (s.withLength none).sq with standard := (s.withLength none).tested, parity := s.sq.parity.other } := by
  simp [State.flywheelFieldStart, State.handLength_eq, State.setParity]

theorem State.flywheelFieldStart_lle (s : State) :
    s.flywheelFieldStart.lle =
      { s.lle with
        fieldCounter := s.lle.fieldCounter + 1
        closedLines := s.lle.fieldLines
        synthRun := min 4 (s.lle.synthRun + 1)
        paritySure := if min 4 (s.lle.synthRun + 1) = 4 then false else s.lle.paritySure
        verticalMisses := min 255 (s.lle.verticalMisses + 1)
        y := 4
        stepTaken := true
        fieldLines := s.flywheelFieldStart.sq.predicted
        realign := 8 } := by
  simp only [State.flywheelFieldStart, State.handLength_eq, State.setParity_lle, State.standardTest_lle]
  rfl

theorem State.flywheelFieldStart_cpr (s : State) :
    s.flywheelFieldStart.cpr = (s.withLength none).standardTest.cpr := rfl

/-- An unknown length is IRREGULAR and shows no standard (01 R14, R15). -/
theorem State.withLength_none_tested (s : State) : (s.withLength none).tested = s.sq.standard :=
  State.tested_kept (.inr ⟨by simp [State.withLength, classOfEntry, List.replicate],
    by simp [State.withLength, classOfEntry, List.replicate]⟩)

/-! ### A re-alignment (02 R37) -/

theorem State.realignment_eq (s : State) (y' : Nat) (p : Parity) :
    s.realignment y' p =
      let v := ((s.withNewest (s.lle.closedLines + y' - 2)).standardTest.setParity p).judgedIrregular true
      { v with lle := { v.lle with
          y := 2, paritySure := true, synthRun := 0, realign := 0, fieldLines := v.sq.predicted } } := rfl

theorem State.realignment_sq (s : State) (y' : Nat) (p : Parity) :
    (s.realignment y' p).sq =
      { (s.withNewest (s.lle.closedLines + y' - 2)).sq with
        standard := (s.withNewest (s.lle.closedLines + y' - 2)).tested, parity := p } := by
  rw [State.realignment_eq]; simp [State.setParity]

theorem State.realignment_lle (s : State) (y' : Nat) (p : Parity) :
    (s.realignment y' p).lle =
      { s.lle with
        y := 2, paritySure := true, synthRun := 0, realign := 0
        fieldLines := (s.realignment y' p).sq.predicted
        irregularFields :=
          if s.lle.lock.lockedFlag then min 255 (s.lle.irregularFields + 1) else s.lle.irregularFields } := by
  rw [State.realignment_eq]
  simp only [State.judgedIrregular_lle, State.setParity_lle, State.standardTest_lle, Bool.true_and]
  rfl

theorem State.realignment_reports (s : State) (y' : Nat) (p : Parity) :
    (s.withNewest (s.lle.closedLines + y' - 2)).standardTest.Reports (· = .fieldIrregular) (s.realignment y' p) := by
  rw [State.realignment_eq]
  exact (State.Reports.of_cpr_eq _ (State.setParity_cpr _ p)).trans
    ((State.judgedIrregular_reports _ _).trans (.of_cpr_eq _ rfl))

theorem State.realignment_has (s : State) (y' : Nat) (p : Parity) :
    (s.realignment y' p).cpr.events.has .fieldIrregular =
      (s.cpr.events.has .fieldIrregular || (s.lle.lock.lockedFlag && s.cpr.enables.has .fieldIrregular)) := by
  rw [State.realignment_eq]
  simp only [State.judgedIrregular_has, State.setParity_cpr, State.setParity_lle, State.standardTest_has,
    State.standardTest_lle, State.standardTest_enables]
  simp [State.withNewest]

/-! ### The line start that carries a decision -/

/-- A line start that completes takes place, and its SQ and LLE are those of its vertical decision (02 R21). -/
theorem exec_lineStart_eq_next {s t : State} {cues : CueLevels} {cueFirst : Bool}
    (run : exec (.lineStart cues cueFirst) s = .next t) :
    t.sq = (s.atLineStart cues).decideVertical.1.sq ∧ t.lle = (s.atLineStart cues).decideVertical.1.lle ∧
      (s.atLineStart cues).decideVertical.1.Reports EventKind.afterDecision t := by
  rw [exec_lineStart, whenDue_eq_next_iff] at run
  obtain ⟨-, rfl⟩ := run
  obtain ⟨sq, lle, -⟩ := s.lineStart_blocks cues cueFirst
  exact ⟨sq, lle, s.lineStart_reports cues cueFirst⟩

theorem EventKind.not_afterDecision_standardChanged : ¬EventKind.afterDecision .standardChanged := by
  simp [EventKind.afterDecision]

theorem EventKind.not_afterDecision_fieldIrregular : ¬EventKind.afterDecision .fieldIrregular := by
  simp [EventKind.afterDecision]

theorem LockState.lockedFlag_eq (l : LockState) : l.lockedFlag = decide (l = .locked ∨ l = .flywheel) := by
  cases l <;> rfl

/-- A line start follows a recognition, or misses one, as its own state does: the cue levels and the schedule play no
part (02 R21). -/
theorem State.following_atLineStart {s : State} (reference : s.settings.reference = .lock)
    (lock : s.lle.lock ≠ .standby) (cues : CueLevels) : (s.atLineStart cues).following = true :=
  (State.following_iff _).mpr ⟨reference, lock⟩

/-- Settles O18: the real field start on the state whose recognition and schedule are taken. -/
theorem realFieldStartFollowsTheRecognition : Obligations.RealFieldStartFollowsTheRecognition := by
  intro s t cues cueFirst p run reference lock recognised closed
  obtain ⟨sq, lle, after⟩ := exec_lineStart_eq_next run
  rw [State.decideVertical_real (State.following_atLineStart reference lock cues) recognised closed] at sq lle after
  have reports := State.realFieldStart_reports (s.atLineStart cues).takeRecognition (s.lle.y + 1) p
  have port := State.realFieldStart_has (s.atLineStart cues).takeRecognition (s.lle.y + 1) p
  have predicted : t.lle.fieldLines = t.sq.predicted := by rw [lle, sq, State.realFieldStart_lle]
  rw [State.realFieldStart_lle] at lle
  rw [State.realFieldStart_sq] at sq
  have standard : s.StandardFollows t :=
    .of_test (v := (s.atLineStart cues).takeRecognition.withLength (some (s.lle.y + 1 - 2))) rfl rfl rfl
      (by rw [sq]; rfl) (by rw [sq]; rfl) (after.attention.trans reports.attention)
      ((after.kept _ EventKind.not_afterDecision_standardChanged).trans (reports.kept _ (by simp)))
  refine ⟨by rw [lle], by rw [lle], by rw [lle], by rw [lle], by rw [lle]; exact closed, by rw [lle]; rfl,
    by rw [lle]; rfl, by rw [sq], predicted, by rw [sq]; rfl, by rw [sq]; rfl, standard, ?_, ?_⟩
  · rw [lle, Bool.decide_and, ← LockState.lockedFlag_eq]; rfl
  · rw [after.kept _ EventKind.not_afterDecision_fieldIrregular, Bool.decide_and, ← LockState.lockedFlag_eq]
    exact port

/-- Settles O19: the flywheel's field start, whose unknown length changes no standard. -/
theorem flywheelFieldStartAtFourLinesLate : Obligations.FlywheelFieldStartAtFourLinesLate := by
  intro s t cues cueFirst run reference lock missing late
  obtain ⟨sq, lle, after⟩ := exec_lineStart_eq_next run
  rw [State.decideVertical_flywheel (State.following_atLineStart reference lock cues) missing late] at sq lle after
  have tested := (s.atLineStart cues).takeRecognition.withLength_none_tested
  have predicted : t.lle.fieldLines = t.sq.predicted := by rw [lle, sq, State.flywheelFieldStart_lle]
  rw [State.flywheelFieldStart_lle] at lle
  rw [State.flywheelFieldStart_sq] at sq
  have attention := after.attention
  have changed := after.kept _ EventKind.not_afterDecision_standardChanged
  have irregular := after.kept _ EventKind.not_afterDecision_fieldIrregular
  rw [State.flywheelFieldStart_cpr] at attention changed irregular
  have standard : s.StandardFollows t :=
    .of_test (v := (s.atLineStart cues).takeRecognition.withLength none) rfl rfl rfl
      (by rw [sq]) (by rw [sq]) attention changed
  refine ⟨by rw [lle], by rw [lle], by rw [lle], by rw [lle]; rfl, by rw [lle]; rfl, by rw [lle]; rfl, by rw [lle]; rfl,
    by rw [lle]; rfl, by rw [lle]; rfl, by rw [sq]; rfl, predicted, by rw [sq]; rfl, by rw [sq]; rfl, standard,
    by rw [sq]; exact tested, ?_⟩
  rw [irregular, State.standardTest_has]
  simp [State.withLength, State.takeRecognition, State.atLineStart]

/-- Settles O20: the re-alignment on the state whose recognition and schedule are taken. -/
theorem realignmentRenumbersTheField : Obligations.RealignmentRenumbersTheField := by
  intro s t cues cueFirst p run reference lock recognised opened
  obtain ⟨sq, lle, after⟩ := exec_lineStart_eq_next run
  rw [State.decideVertical_realign (State.following_atLineStart reference lock cues) recognised
    (Nat.pos_iff_ne_zero.mp opened)] at sq lle after
  have reports := State.realignment_reports (s.atLineStart cues).takeRecognition (s.lle.y + 1) p
  have port := State.realignment_has (s.atLineStart cues).takeRecognition (s.lle.y + 1) p
  have predicted : t.lle.fieldLines = t.sq.predicted := by rw [lle, sq, State.realignment_lle]
  rw [State.realignment_lle] at lle
  rw [State.realignment_sq] at sq
  have standard : s.StandardFollows t :=
    .of_test
      (v := (s.atLineStart cues).takeRecognition.withNewest (s.lle.closedLines + (s.lle.y + 1) - 2)) rfl rfl rfl
      (by rw [sq]; rfl) (by rw [sq]; rfl) (after.attention.trans reports.attention)
      ((after.kept _ EventKind.not_afterDecision_standardChanged).trans (reports.kept _ (by simp)))
  refine ⟨by rw [lle], by rw [lle]; rfl, by rw [lle], by rw [lle], by rw [lle], by rw [lle]; rfl, by rw [sq], predicted,
    by rw [sq]; rfl, by rw [sq]; rfl, standard, ?_, ?_⟩
  · rw [lle, ← LockState.lockedFlag_eq]; rfl
  · rw [after.kept _ EventKind.not_afterDecision_fieldIrregular, ← LockState.lockedFlag_eq]
    exact port

end Sys2Proof.Machine
end

section
/-! ## A line start as a whole (02 R21) -/

namespace Sys2Proof.Machine

open Sys2Proof

/-! ### The commit of a line start, on the state before it (07 R127) -/

/-- The vertical decision of a line start writes no more than a decision may. -/
theorem State.lineStart_decision (s : State) (cues : CueLevels) :
    (s.atLineStart cues).takeRecognition.DecisionFrame (s.atLineStart cues).decideVertical.1 :=
  State.decideVertical_decision _

theorem State.lineStart_fieldStart (s : State) (cues : CueLevels) :
    (s.atLineStart cues).decideVertical.2.fieldStart = s.startsField :=
  State.decideVertical_fieldStart _

/-- A commit takes a state and what the vertical decision leaves of it alike. -/
theorem State.decideVertical_alike (s : State) (cues : CueLevels) :
    s.CommitAlike (s.atLineStart cues).decideVertical.1 := by
  have d := s.lineStart_decision cues
  generalize (s.atLineStart cues).decideVertical.1 = t at d ⊢
  exact ⟨by rw [d.frame]; rfl, by rw [d.frame]; rfl, by rw [d.frame]; rfl, by rw [d.frame]; rfl, by rw [d.cpr]; rfl,
    d.events _ (by simp) (by simp)⟩

/-- The records, the STG and the queue of a line start after its commit are those that the commit leaves of the state
before it. -/
theorem State.committedAt_alike (s : State) (cues : CueLevels) : s.committedAt.CommitAlike (s.committedLine cues) := by
  have alike := s.decideVertical_alike cues
  unfold State.committedAt State.committedLine
  dsimp only
  rw [State.lineStart_fieldStart]
  split
  · exact alike.commit
  · exact alike

/-- What the commit of a line start keeps of the decided state and of the state before it. -/
theorem State.committedLine_blocks (s : State) (cues : CueLevels) :
    (s.committedLine cues).sq.counter = s.sq.counter ∧ (s.committedLine cues).settings = s.settings ∧
    (s.committedLine cues).sbk = s.sbk ∧ (s.committedLine cues).lle.period = s.lle.period := by
  have core := s.committedLine_core cues
  have d := s.lineStart_decision cues
  generalize s.committedLine cues = k at core ⊢
  generalize (s.atLineStart cues).decideVertical.1 = t at core d
  exact ⟨by rw [core.sq, d.sq]; rfl, by rw [core.settings, d.frame]; rfl, by rw [core.sbk, d.frame]; rfl,
    by rw [core.lle, d.lle]; rfl⟩

theorem State.committedAt_stg (s : State) : s.stg.SameButDevice s.committedAt.stg := by
  unfold State.committedAt
  split
  · exact s.commit_stg
  · rfl

/-! ### The CHS, the field's flags and the count of the new line (03 R44, R46, R47, R50, 08 R140, R141) -/

@[simp] theorem SlaveTiming.emitChs_hdelay (g : SlaveTiming) (now : Timestamp) (cpixLat line vdelay : Nat) :
    (g.emitChs now cpixLat line vdelay).hdelay = g.hdelay := by unfold SlaveTiming.emitChs; rfl

/-- A line start finds a CHS awaited and emits it first: the HDELAY that the commit leaves is not 0 (03 R47). -/
def State.chsLate (s : State) : Bool :=
  decide (s.stg.awaiting = true ∧ s.committedAt.stg.hdelay ≠ 0)

theorem State.committedLine_late (s : State) (cues : CueLevels) :
    decide ((s.committedLine cues).stg.awaiting = true ∧ (s.committedLine cues).stg.hdelay ≠ 0) = s.chsLate := by
  rw [(s.committedAt_alike cues).stg, State.chsLate, s.committedAt_stg]

theorem State.settledLine_stg (s : State) (cues : CueLevels) :
    (s.settledLine cues).stg =
      let emitted :=
        if s.chsLate then s.committedAt.stg.emitChs s.sq.counter s.settings.cpixLat s.lle.y s.stg.vdelay
        else s.committedAt.stg
      { emitted with cvsDone := emitted.cvsDone && !s.startsField } := by
  obtain ⟨counter, settings, -, -⟩ := s.committedLine_blocks cues
  rw [State.settledLine_eq, State.emitAwaited_eq, State.lineStart_fieldStart, State.committedLine_late,
    (s.committedAt_alike cues).stg, counter, settings]
  cases s.startsField <;> simp [State.beginField]

theorem State.settledLine_sbk (s : State) (cues : CueLevels) :
    (s.settledLine cues).sbk =
      { (if s.chsLate then s.sbk.takeWaiting else s.sbk) with
        overflowReported := s.sbk.overflowReported && !s.startsField } := by
  obtain ⟨-, -, sbk, -⟩ := s.committedLine_blocks cues
  have kept : (if s.chsLate then s.sbk.takeWaiting else s.sbk).overflowReported = s.sbk.overflowReported := by
    unfold SpanKeyer.takeWaiting
    split
    · split <;> rfl
    · rfl
  rw [State.settledLine_eq, State.emitAwaited_eq, State.lineStart_fieldStart, State.committedLine_late, sbk]
  cases s.startsField
  · simp [← kept]
  · simp [State.beginField]

theorem State.lineStart_stg (s : State) (cues : CueLevels) (cueFirst : Bool) :
    (s.lineStart cues cueFirst).stg = (s.settledLine cues).beginLine.stg := by
  obtain ⟨-, -, stg, -⟩ := (s.settledLine cues).beginLine.buildSpans_blocks
  rw [State.lineStart_eq, State.stepAndCues_stg, stg]

/-- The STG begins a line by the settings, the P and the HDELAY as they then stand (03 R44, R46). -/
theorem State.settledLine_beginLine_stg (s : State) (cues : CueLevels) :
    (s.settledLine cues).beginLine.stg =
      { (s.settledLine cues).stg with
        increment := pixelIncrement s.settings.pixTotal s.lle.period
        linePixTotal := s.settings.pixTotal
        awaiting := true
        delayCount := 0
        lineHdelay := s.committedAt.stg.hdelay
        chsAt := if s.committedAt.stg.hdelay = 0 then some s.sq.counter else none } := by
  obtain ⟨counter, settings, -, period⟩ := s.committedLine_blocks cues
  have hdelay : (s.settledLine cues).stg.hdelay = s.committedAt.stg.hdelay := by
    rw [State.settledLine_stg]
    cases s.chsLate <;> simp
  have frame := s.settledLine_frame cues
  generalize s.settledLine cues = v at frame hdelay ⊢
  have now : v.sq.counter = s.sq.counter := by rw [frame]; exact counter
  have pix : v.settings = s.settings := by rw [frame]; exact settings
  have per : v.lle.period = s.lle.period := by rw [frame]; exact period
  simp only [State.beginLine, State.now, hdelay, now, pix, per]

/-! ### The span list of the new line (08 R136, R140) -/

theorem State.lineStart_sbk (s : State) (cues : CueLevels) (cueFirst : Bool) :
    (s.lineStart cues cueFirst).sbk = (s.settledLine cues).beginLine.buildSpans.sbk := by
  rw [State.lineStart_eq]
  exact (State.stepAndCues_core _ _ _).sbk

/-- The state whose span list a line start builds: the records as committed, the SQ and LLE as decided, the line
PIXTOTAL and the settings of the new line. -/
theorem State.begunLine_blocks (s : State) (cues : CueLevels) (cueFirst : Bool) :
    (s.settledLine cues).beginLine.sq = (s.lineStart cues cueFirst).sq ∧
    (s.settledLine cues).beginLine.lle = (s.lineStart cues cueFirst).lle ∧
    (s.settledLine cues).beginLine.titles = s.committedAt.titles ∧
    (s.settledLine cues).beginLine.stg.linePixTotal = s.settings.pixTotal ∧
    (s.settledLine cues).beginLine.settings = s.settings ∧
    (s.settledLine cues).beginLine.sbk = (s.settledLine cues).sbk := by
  obtain ⟨sq, lle, -⟩ := s.settledLine_blocks cues
  obtain ⟨sq', lle', -⟩ := s.lineStart_blocks cues cueFirst
  obtain ⟨-, settings, -, -⟩ := s.committedLine_blocks cues
  have titles := (s.committedAt_alike cues).titles
  have frame := s.settledLine_frame cues
  have pix : (s.settledLine cues).beginLine.stg.linePixTotal = s.settings.pixTotal := by
    rw [State.settledLine_beginLine_stg]
  refine ⟨?_, ?_, ?_, pix, ?_, by rw [State.beginLine_frame]⟩ <;> rw [State.beginLine_frame]
  · exact sq.trans sq'.symm
  · exact lle.trans lle'.symm
  · rw [frame]; exact titles
  · rw [frame]; exact settings

/-- The candidates and spans of the new line by the records as committed and before any field step (05 R83). -/
theorem State.begunLine_spans (s : State) (cues : CueLevels) (cueFirst : Bool) :
    (s.settledLine cues).beginLine.overfull =
      decide (8 < (s.committedAt.candidates (s.lineStart cues cueFirst).sq.parity
        (s.lineStart cues cueFirst).lle.y).length) ∧
    ∀ p y, (s.settledLine cues).beginLine.spans p y =
      State.spans
        { s.committedAt with stg := { s.committedAt.stg with linePixTotal := s.settings.pixTotal } } p y := by
  obtain ⟨sq, lle, titles, pix, -⟩ := s.begunLine_blocks cues cueFirst
  have same := State.spans_congr (s := (s.settledLine cues).beginLine)
    (t := { s.committedAt with stg := { s.committedAt.stg with linePixTotal := s.settings.pixTotal } }) titles pix
  refine ⟨?_, fun p y => (same p y).2⟩
  rw [State.overfull, sq, lle, (same _ _).1]
  rfl

/-- What the lists keyed from are after a CHS that may find no waiting list (08 R141, log 21). -/
theorem SpanKeyer.takeWaiting_eq (k : SpanKeyer) :
    k.takeWaiting =
      { k with
        keying := k.waiting.getD k.keying
        keyingMaster := if k.waiting.isSome then k.waitingMaster else k.keyingMaster
        waiting := none } := by
  obtain ⟨waiting, master⟩ := k
  cases waiting <;> rfl

theorem State.lineStart_sbk_eq (s : State) (cues : CueLevels) (cueFirst : Bool) :
    (s.lineStart cues cueFirst).sbk =
      { s.sbk with
        keying := if s.chsLate then s.sbk.waiting.getD s.sbk.keying else s.sbk.keying
        keyingMaster := if s.chsLate && s.sbk.waiting.isSome then s.sbk.waitingMaster else s.sbk.keyingMaster
        waiting := some
          (State.spans { s.committedAt with stg := { s.committedAt.stg with linePixTotal := s.settings.pixTotal } }
            (s.lineStart cues cueFirst).sq.parity (s.lineStart cues cueFirst).lle.y)
        waitingMaster := s.settings.masterLevel
        overflowReported := s.sbk.overflowReported && !s.startsField || (s.settledLine cues).beginLine.overfull } := by
  obtain ⟨sq, lle, -, -, settings, sbk⟩ := s.begunLine_blocks cues cueFirst
  rw [State.lineStart_sbk, State.buildSpans_sbk, (s.begunLine_spans cues cueFirst).2, sq, lle, settings, sbk,
    State.settledLine_sbk]
  cases s.chsLate <;> simp [SpanKeyer.takeWaiting_eq]

/-! ### The events of a line start (11 R182) -/

/-- The port at the point where the span list is built: what the decision and the commit have reported. -/
theorem State.begunLine_reports (s : State) (cues : CueLevels) :
    (s.atLineStart cues).decideVertical.1.Reports (fun k => k = .titleActivity ∨ k = .queueDrained)
      (s.settledLine cues).beginLine :=
  (s.committedLine_reports cues).trans (.of_cpr_eq _ (by simp))

/-- After the span list is built only the titles and the cue lines report (05 R100, 09 R157). -/
theorem State.builtLine_reports (s : State) (cues : CueLevels) (cueFirst : Bool) :
    (s.settledLine cues).beginLine.buildSpans.Reports (fun k => k = .titleActivity ∨ ∃ n, k = .cue n)
      (s.lineStart cues cueFirst) := by
  rw [State.lineStart_eq]
  exact State.stepAndCues_reports _ _ _

/-- A line start raises SPAN OVERFLOW for the first list of the field with more than 8 candidates (08 R140). -/
theorem State.lineStart_has_spanOverflow (s : State) (cues : CueLevels) (cueFirst : Bool) :
    (s.lineStart cues cueFirst).cpr.events.has .spanOverflow =
      (s.cpr.events.has .spanOverflow ||
        ((s.settledLine cues).beginLine.overfull && !(s.sbk.overflowReported && !s.startsField) &&
          s.cpr.enables.has .spanOverflow)) := by
  have d := s.lineStart_decision cues
  have begun := s.begunLine_reports cues
  have reported : (s.settledLine cues).beginLine.sbk.overflowReported = (s.sbk.overflowReported && !s.startsField) := by
    rw [State.beginLine_frame, State.settledLine_sbk]
  rw [(s.builtLine_reports cues cueFirst).kept _ (by simp), State.buildSpans_has_spanOverflow, reported,
    begun.kept _ (by simp), begun.enables, d.events _ (by simp) (by simp), d.cpr]
  rfl

/-- QUEUE DRAINED is pending after a line start as the commit leaves it (07 R130). -/
theorem State.lineStart_has_queueDrained (s : State) (cues : CueLevels) (cueFirst : Bool) :
    (s.lineStart cues cueFirst).cpr.events.has .queueDrained = s.committedAt.cpr.events.has .queueDrained := by
  rw [(s.builtLine_reports cues cueFirst).kept _ (by simp),
    (s.settledLine cues).beginLine.buildSpans_reports.kept _ (by simp), State.beginLine_cpr, State.settledLine_cpr,
    (s.committedAt_alike cues).drained]

/-- Every other kind but TITLE ACTIVITY, the cues and the two of the field length is left by a line start. -/
theorem State.lineStart_has_other (s : State) (cues : CueLevels) (cueFirst : Bool) {k : EventKind}
    (decided : k ≠ .standardChanged ∧ k ≠ .fieldIrregular) (after : ¬k.afterDecision) :
    (s.lineStart cues cueFirst).cpr.events.has k = s.cpr.events.has k :=
  ((s.lineStart_reports cues cueFirst).kept k after).trans
    ((s.lineStart_decision cues).events k decided.1 decided.2)

/-- Of the port a line start writes the attention reasons, the events and the notices. -/
theorem State.lineStart_cpr (s : State) (cues : CueLevels) (cueFirst : Bool) :
    (s.lineStart cues cueFirst).cpr =
      { s.cpr with
        attention := (s.lineStart cues cueFirst).cpr.attention
        events := (s.lineStart cues cueFirst).cpr.events
        notices := (s.lineStart cues cueFirst).cpr.notices } := by
  have port := (s.lineStart_reports cues cueFirst).port
  have decided := (s.lineStart_decision cues).cpr
  generalize s.lineStart cues cueFirst = t at port ⊢
  generalize (s.atLineStart cues).decideVertical.1 = d at port decided
  rw [port, decided]
  rfl

theorem State.lineStart_freeIndex (s : State) (cues : CueLevels) (cueFirst : Bool) :
    (s.lineStart cues cueFirst).freeIndex = s.freeIndex := by
  have d := (s.lineStart_decision cues).frame
  have committed := (s.committedLine_core cues).freeIndex
  have frame := s.settledLine_frame cues
  obtain ⟨-, -, -, -, -, -, -, -, -, -, built, -⟩ := (s.settledLine cues).beginLine.buildSpans_blocks
  rw [State.lineStart_eq, (State.stepAndCues_core _ _ _).freeIndex, built, State.beginLine_frame, frame]
  exact committed.trans (by rw [d]; rfl)

/-- Settles O17: the line start block by block, from the vertical decision, the commit, the late CHS, the line's begin
and its span list. -/
theorem lineStartCompletes : Obligations.LineStartCompletes := by
  intro s cues cueFirst due
  refine ⟨s.lineStart cues cueFirst, by rw [exec_lineStart, due, whenDue_true], ?_⟩
  obtain ⟨sq, lle, op, settings, pins, -⟩ := s.lineStart_blocks cues cueFirst
  have d := s.lineStart_decision cues
  rw [d.sq] at sq
  rw [d.lle] at lle
  have overfull := (s.begunLine_spans cues cueFirst).1
  have sbk := s.lineStart_sbk_eq cues cueFirst
  have overflow := s.lineStart_has_spanOverflow cues cueFirst
  rw [overfull] at sbk overflow
  have stg := s.lineStart_stg cues cueFirst
  rw [State.settledLine_beginLine_stg, State.settledLine_stg] at stg
  refine ⟨by rw [lle]; rfl, by rw [sq]; rfl, ⟨?_, s.committedAt_stg, ⟨sbk, ?_⟩,
    s.lineStart_has_queueDrained cues cueFirst,
    s.lineStart_has_other cues cueFirst (by simp) (by simp [EventKind.afterDecision]),
    s.lineStart_has_other cues cueFirst (by simp) (by simp [EventKind.afterDecision]),
    s.lineStart_has_other cues cueFirst (by simp) (by simp [EventKind.afterDecision]),
    s.lineStart_cpr cues cueFirst⟩, by rw [lle]; rfl, by rw [lle]; rfl, by rw [lle]; rfl, by rw [lle]; rfl,
    by rw [lle]; rfl, by rw [lle]; rfl, by rw [lle]; rfl, by rw [lle]; rfl, by rw [lle]; rfl, by rw [lle]; rfl,
    by rw [lle]; rfl, by rw [lle]; rfl, by rw [lle]; rfl, by rw [sq]; rfl, by rw [sq]; rfl, by rw [sq]; rfl,
    by rw [sq]; rfl, by rw [op, d.frame]; rfl, by rw [settings, d.frame]; rfl, by rw [pins, d.frame]; rfl,
    s.lineStart_freeIndex cues cueFirst⟩
  · rw [stg]
    cases late : s.chsLate
    · have notLate : decide (s.stg.awaiting = true ∧ s.committedAt.stg.hdelay ≠ 0) = false := late
      rw [notLate]; rfl
    · have isLate : decide (s.stg.awaiting = true ∧ s.committedAt.stg.hdelay ≠ 0) = true := late
      have done : s.committedAt.stg.cvsDone = s.stg.cvsDone := by rw [s.committedAt_stg]
      rw [isLate]
      simp only [if_true, SlaveTiming.emitChs, SlaveTiming.startsCvs, done]
      rfl
  · rw [overflow]

end Sys2Proof.Machine
end

section
/-! ## The queue of commands that wait, and the idle step (log 1) -/

namespace Sys2Proof.Machine

open Sys2Proof

/-! ### The part's own events keep the queue -/

@[simp] theorem State.qualify_pending (s : State) : s.qualify.pending = s.pending := by
  rw [State.qualify_frame]; rfl

@[simp] theorem State.handClass_pending (s : State) (c : PulseClass) (t : Timestamp) :
    (s.handClass c t).pending = s.pending := by
  by_cases hs : c = .hs
  · rw [hs, State.handClass_hs]
  · rw [State.handClass_not_hs s t hs]

@[simp] theorem State.classify_pending (s : State) (c : PulseClass) (next : PulseState) :
    (s.classify c next).pending = s.pending := by
  simp [State.classify]

theorem State.endPulse_pending (s : State) : s.endPulse.pending = s.pending := by
  cases p : s.sq.pulseState with
  | timing =>
    simp only [State.endPulse, p]
    split
    · rfl
    · simp
  | _ => simp [State.endPulse, p]

theorem State.missingLine_pending (s : State) : s.missingLine.pending = s.pending := by
  unfold State.missingLine
  dsimp only
  split
  case h_3 => split <;> rfl
  all_goals rfl

theorem State.lineStart_pending (s : State) (cues : CueLevels) (cueFirst : Bool) :
    (s.lineStart cues cueFirst).pending = s.pending := by
  obtain ⟨-, -, -, -, -, pending⟩ := s.lineStart_blocks cues cueFirst
  rw [pending, (s.lineStart_decision cues).frame]
  rfl

@[simp] theorem State.emitChs_pending (s : State) (line vdelay : Nat) :
    (s.emitChs line vdelay).pending = s.pending := by
  unfold State.emitChs; rfl

theorem State.takeSample_pending (s : State) (index : BitVec 4) : (s.takeSample index).pending = s.pending := by
  unfold State.takeSample; rfl

/-! ### The work of each host command keeps the queue -/

/-- A command to a title either refuses, over the state as it is, or does its work on a live record. -/
theorem State.onTitle_pending {s : State} {h : Nat} {body : Title → Performed}
    (work : ∀ t, (body t).1.pending = s.pending) : (s.onTitle h body).1.pending = s.pending := by
  unfold State.onTitle
  split
  · rfl
  · exact work _

@[simp] theorem State.settleTitle_pending (s : State) (h : Nat) (r : Title × List Notice) :
    (s.settleTitle h r).pending = s.pending :=
  (State.settleTitle_core s h r).pending

theorem State.sequence_pending (s : State) (h : Nat) (work : Title → Option TitleWork) :
    (s.sequence h work).1.pending = s.pending := by
  refine State.onTitle_pending fun t => ?_
  split
  · rfl
  · exact State.settleTitle_pending _ _ _

theorem State.stageEntry_pending (s : State) (given : Nat) (e : Entry) (param : Nat) :
    (s.stageEntry given e param).1.pending = s.pending := by
  unfold State.stageEntry
  split <;> rfl

theorem doCreateTitle_pending (ps : List Byte) (s : State) : (doCreateTitle ps s).1.pending = s.pending := by
  unfold doCreateTitle
  split
  · rfl
  · split
    · rfl
    · dsimp only
      split <;> simp

theorem doAmendTitle_pending (ps : List Byte) (s : State) : (doAmendTitle ps s).1.pending = s.pending := by
  unfold doAmendTitle
  dsimp only
  split
  · rfl
  · refine State.onTitle_pending fun t => ?_
    split
    · rfl
    · split
      · rfl
      · exact State.stageEntry_pending _ _ _ _

theorem doQueryTitle_pending (ps : List Byte) (s : State) : (doQueryTitle ps s).1.pending = s.pending :=
  State.onTitle_pending fun _ => rfl

theorem doListTitles_pending (ps : List Byte) (s : State) : (doListTitles ps s).1.pending = s.pending := by
  unfold doListTitles
  split <;> rfl

theorem doHitTest_pending (ps : List Byte) (s : State) : (doHitTest ps s).1.pending = s.pending := by
  unfold doHitTest
  split <;> rfl

theorem State.retireNow_pending (s : State) (h : Nat) : (s.retireNow h).1.pending = s.pending :=
  State.onTitle_pending fun _ => State.freeAndForget_pending s h

theorem State.retireGracefully_pending (s : State) (h : Nat) : (s.retireGracefully h).1.pending = s.pending := by
  refine State.onTitle_pending fun t => ?_
  split
  · exact State.freeAndForget_pending s h
  · exact State.settleTitle_pending _ _ _

theorem doRetireTitle_pending (ps : List Byte) (s : State) : (doRetireTitle ps s).1.pending = s.pending := by
  unfold doRetireTitle
  split
  · exact State.retireNow_pending _ _
  · exact State.retireGracefully_pending _ _
  · rfl

theorem doHalt_pending (ps : List Byte) (s : State) : (doHalt ps s).1.pending = s.pending := by
  unfold doHalt
  split
  · exact State.sequence_pending _ _ _
  · exact State.sequence_pending _ _ _
  · rfl

theorem doSetTiming_pending (ps : List Byte) (s : State) : (doSetTiming ps s).1.pending = s.pending := by
  unfold doSetTiming
  dsimp only
  split
  · rfl
  · exact State.stageEntry_pending _ _ _ _

theorem doDiscardPending_pending (ps : List Byte) (s : State) : (doDiscardPending ps s).1.pending = s.pending := by
  unfold doDiscardPending
  dsimp only
  split <;> rfl

theorem State.writeStandard_pending (s : State) (v : StandardSetting) : (s.writeStandard v).pending = s.pending := by
  unfold State.writeStandard
  split <;> rfl

theorem State.writeSetting_pending (s : State) (item value : Nat) :
    (s.writeSetting item value).pending = s.pending := by
  unfold State.writeSetting
  dsimp only
  split
  case h_1 =>
    split
    · rfl
    · exact State.writeStandard_pending _ _
  case h_2 => split <;> rfl
  case h_5 => split <;> rfl
  all_goals rfl

theorem doSetMode_pending (ps : List Byte) (s : State) : (doSetMode ps s).1.pending = s.pending := by
  unfold doSetMode
  dsimp only
  split
  · rfl
  · split
    · rfl
    · split
      · rfl
      · exact State.writeSetting_pending _ _ _

theorem doReportMode_pending (ps : List Byte) (s : State) : (doReportMode ps s).1.pending = s.pending := by
  unfold doReportMode
  dsimp only
  split <;> rfl

theorem doSetEvents_pending (ps : List Byte) (s : State) : (doSetEvents ps s).1.pending = s.pending := by
  unfold doSetEvents
  dsimp only
  split <;> rfl

theorem doEnterStandby_pending (s : State) : (doEnterStandby s).1.pending = s.pending := by
  unfold doEnterStandby
  split <;> rfl

theorem doLeaveStandby_pending (s : State) : (doLeaveStandby s).1.pending = s.pending := by
  unfold doLeaveStandby
  split <;> rfl

theorem doSetCueLine_pending (ps : List Byte) (s : State) : (doSetCueLine ps s).1.pending = s.pending := by
  unfold doSetCueLine
  split
  · rfl
  · split
    · rfl
    · exact State.onTitle_pending fun _ => rfl
    · rfl

/-! ### Performing and the accesses of the port keep the queue -/

theorem performWith_pending (code : Byte) {body : State → Performed} {s : State}
    (work : (body s).1.pending = s.pending) : (performWith code body s).pending = s.pending := by
  unfold performWith
  split
  · rfl
  · exact work

theorem State.reportLock_pending (s : State) : s.reportLock.pending = s.pending := by
  unfold State.reportLock
  rfl

theorem perform_pending (c : Command) (ps : List Byte) (s : State) : (perform c ps s).pending = s.pending := by
  cases c with
  | createTitle => exact performWith_pending _ (doCreateTitle_pending ps s)
  | amendTitle => exact performWith_pending _ (doAmendTitle_pending ps s)
  | queryTitle => exact performWith_pending _ (doQueryTitle_pending ps s)
  | listTitles => exact performWith_pending _ (doListTitles_pending ps s)
  | hitTest => exact performWith_pending _ (doHitTest_pending ps s)
  | retireTitle => exact performWith_pending _ (doRetireTitle_pending ps s)
  | halt => exact performWith_pending _ (doHalt_pending ps s)
  | setTiming => exact performWith_pending _ (doSetTiming_pending ps s)
  | discardPending => exact performWith_pending _ (doDiscardPending_pending ps s)
  | setMode => exact performWith_pending _ (doSetMode_pending ps s)
  | reportMode => exact performWith_pending _ (doReportMode_pending ps s)
  | setEvents => exact performWith_pending _ (doSetEvents_pending ps s)
  | enterStandby => exact performWith_pending _ (doEnterStandby_pending s)
  | leaveStandby => exact performWith_pending _ (doLeaveStandby_pending s)
  | setCueLine => exact performWith_pending _ (doSetCueLine_pending ps s)
  | cutAll => exact performWith_pending _ s.cutTitles_core.pending
  | reportLock =>
    unfold perform
    dsimp only
    split
    · rfl
    · exact s.reportLock_pending
  | arm | disarm | start | leave | resume | rearm => exact performWith_pending _ (State.sequence_pending _ _ _)
  | resetTitles | holdAmendments | applyAmendments | queryPending | reportCueLines | readEvents | readNotices =>
    exact performWith_pending _ rfl
  | reportCondition => rfl

theorem State.writeCommand_pending (s : State) (code : Byte) : (s.writeCommand code).pending = s.pending := by
  unfold State.writeCommand
  split
  · rfl
  · split
    · exact performWith_pending (s := s.openCommand) _ rfl
    · split
      · exact perform_pending _ _ _
      · rfl

theorem State.writeParameter_pending (s : State) (b : Byte) : (s.writeParameter b).pending = s.pending := by
  unfold State.writeParameter
  split
  · rfl
  · split
    · rfl
    · split
      · exact perform_pending _ _ _
      · rfl

/-- The row of a last byte keeps the queue where its body does. -/
theorem State.lastByte_pending (s : State) (c : Command) (b : Byte) {body : List Byte → State → State}
    (work : ∀ ps s, (body ps s).pending = s.pending) : (s.lastByte c b body).pending = s.pending := by
  obtain eq | eq | ⟨ps, -, eq⟩ := s.lastByte_cases c b body <;> rw [eq]
  · exact s.writeParameter_pending b
  · exact work _ _

/-- The row of a command without parameters keeps the queue where its body does. -/
theorem State.commandRow_pending (s : State) {body : State → State} (work : ∀ s, (body s).pending = s.pending) :
    (s.commandRow body).pending = s.pending := by
  unfold State.commandRow
  split
  · rfl
  · exact work _

theorem State.readAccess_pending (s : State) (byte : Byte) {after : State} (same : after.pending = s.pending) :
    (s.readAccess byte after).pending = s.pending := by
  unfold State.readAccess
  split
  · rfl
  · exact same

theorem State.readResult_pending (s : State) : s.readResult.pending = s.pending := by
  unfold State.readResult
  split <;> exact s.readAccess_pending _ rfl

theorem State.writePaletteAddress_pending (s : State) (b : Byte) : (s.writePaletteAddress b).pending = s.pending := by
  unfold State.writePaletteAddress
  split <;> rfl

theorem State.writePaletteData_pending (s : State) (b : Byte) : (s.writePaletteData b).pending = s.pending := by
  unfold State.writePaletteData
  split
  · rfl
  · split <;> rfl

theorem State.readPaletteData_pending (s : State) : s.readPaletteData.pending = s.pending := by
  unfold State.readPaletteData
  split <;> exact s.readAccess_pending _ rfl

/-! ### Every row keeps the queue -/

/-- A row that completes keeps the queue where the state it leaves does. -/
theorem pending_of_next {s t u : State} (run : (.next u : Host.Outcome State Fault Refusal) = .next t)
    (keeps : u.pending = s.pending) : t.pending = s.pending := by
  cases run
  exact keeps

theorem pending_of_whenDue {s t u : State} {due : Bool} (run : whenDue due u = .next t)
    (keeps : u.pending = s.pending) : t.pending = s.pending := by
  obtain ⟨-, rfl⟩ := whenDue_eq_next_iff.mp run
  exact keeps

theorem execCsyncFallingEdge_pending {s t : State} (run : execCsyncFallingEdge s = .next t) :
    t.pending = s.pending := by
  unfold execCsyncFallingEdge at run
  split at run
  · cases run
  · split at run
    · exact pending_of_next run rfl
    · split at run
      · exact pending_of_next run rfl
      · cases run

theorem execCsyncRisingEdge_pending {s t : State} (run : execCsyncRisingEdge s = .next t) : t.pending = s.pending := by
  unfold execCsyncRisingEdge at run
  split at run
  · cases run
  · split at run
    · exact pending_of_next run rfl
    · split at run
      · cases run
      · exact pending_of_next run s.endPulse_pending

/-- No command changes the queue of the commands that wait. -/
theorem exec_pending {c : Instr} {s t : State} (run : exec c s = .next t) : t.pending = s.pending := by
  cases c with
  | powerOn | pinResetStart | pinReset => exact pending_of_next run rfl
  | csyncFallingEdge => exact execCsyncFallingEdge_pending run
  | csyncRisingEdge => exact execCsyncRisingEdge_pending run
  | qualificationExpiry => exact pending_of_whenDue run s.qualify_pending
  | overlongExpiry => exact pending_of_whenDue run (s.classify_pending _ _)
  | runExpiry | gateOpen | freeLineDecision | chsPulseEnd => exact pending_of_whenDue run rfl
  | gateDecisionExpiry => exact pending_of_whenDue run s.missingLine_pending
  | lineStart cues cueFirst => exact pending_of_whenDue run (s.lineStart_pending cues cueFirst)
  | pixelSample index => exact pending_of_whenDue run (s.takeSample_pending index)
  | chs => exact pending_of_whenDue run (s.emitChs_pending _ _)
  | createTitle b => exact pending_of_next run (s.lastByte_pending _ b (perform_pending .createTitle))
  | amendTitle b => exact pending_of_next run (s.lastByte_pending _ b (perform_pending .amendTitle))
  | queryTitle b => exact pending_of_next run (s.lastByte_pending _ b (perform_pending .queryTitle))
  | listTitles b => exact pending_of_next run (s.lastByte_pending _ b (perform_pending .listTitles))
  | hitTest b => exact pending_of_next run (s.lastByte_pending _ b (perform_pending .hitTest))
  | retireTitleImmediate =>
    exact pending_of_next run
      (s.lastByte_pending _ 0 fun _ s => performWith_pending _ (s.retireNow_pending _))
  | retireTitleGraceful =>
    exact pending_of_next run
      (s.lastByte_pending _ 1 fun _ s => performWith_pending _ (s.retireGracefully_pending _))
  | haltImmediate | haltDecelerated =>
    exact pending_of_next run
      (s.lastByte_pending _ _ fun _ s => performWith_pending _ (s.sequence_pending _ _))
  | arm b => exact pending_of_next run (s.lastByte_pending _ b (perform_pending .arm))
  | disarm b => exact pending_of_next run (s.lastByte_pending _ b (perform_pending .disarm))
  | start b => exact pending_of_next run (s.lastByte_pending _ b (perform_pending .start))
  | leave b => exact pending_of_next run (s.lastByte_pending _ b (perform_pending .leave))
  | resume b => exact pending_of_next run (s.lastByte_pending _ b (perform_pending .resume))
  | rearm b => exact pending_of_next run (s.lastByte_pending _ b (perform_pending .rearm))
  | setTiming b => exact pending_of_next run (s.lastByte_pending _ b (perform_pending .setTiming))
  | discardPending b => exact pending_of_next run (s.lastByte_pending _ b (perform_pending .discardPending))
  | setMode b => exact pending_of_next run (s.lastByte_pending _ b (perform_pending .setMode))
  | reportMode b => exact pending_of_next run (s.lastByte_pending _ b (perform_pending .reportMode))
  | setEvents b => exact pending_of_next run (s.lastByte_pending _ b (perform_pending .setEvents))
  | setCueLine b => exact pending_of_next run (s.lastByte_pending _ b (perform_pending .setCueLine))
  | reportCondition b => exact pending_of_next run (s.lastByte_pending _ b (perform_pending .reportCondition))
  | resetTitles => exact pending_of_next run (s.commandRow_pending (perform_pending .resetTitles []))
  | cutAll => exact pending_of_next run (s.commandRow_pending (perform_pending .cutAll []))
  | holdAmendments => exact pending_of_next run (s.commandRow_pending (perform_pending .holdAmendments []))
  | applyAmendments => exact pending_of_next run (s.commandRow_pending (perform_pending .applyAmendments []))
  | queryPending => exact pending_of_next run (s.commandRow_pending (perform_pending .queryPending []))
  | enterStandby => exact pending_of_next run (s.commandRow_pending (perform_pending .enterStandby []))
  | leaveStandby => exact pending_of_next run (s.commandRow_pending (perform_pending .leaveStandby []))
  | reportCueLines => exact pending_of_next run (s.commandRow_pending (perform_pending .reportCueLines []))
  | reportLock => exact pending_of_next run (s.commandRow_pending (perform_pending .reportLock []))
  | readEvents => exact pending_of_next run (s.commandRow_pending (perform_pending .readEvents []))
  | readNotices => exact pending_of_next run (s.commandRow_pending (perform_pending .readNotices []))
  | unknownCommand b | commandByteWrite b => exact pending_of_next run (s.writeCommand_pending b)
  | strayParameterByte b | parameterByteWrite b => exact pending_of_next run (s.writeParameter_pending b)
  | resultRead => exact pending_of_next run s.readResult_pending
  | statusRead | paletteAddressRead => exact pending_of_next run (s.readAccess_pending _ rfl)
  | paletteAddressWrite b => exact pending_of_next run (s.writePaletteAddress_pending b)
  | paletteDataWrite b => exact pending_of_next run (s.writePaletteData_pending b)
  | paletteDataRead => exact pending_of_next run s.readPaletteData_pending

/-! ### The idle step (log 1) -/

theorem whenDue_completes {due : Bool} (h : due = true) (t : State) : ∃ u, whenDue due t = .next u :=
  ⟨t, by rw [h, whenDue_true]⟩

/-- A clock event that the part takes by itself is due, and so completes: the free value used up plays no part in any of
the ten predicates. -/
theorem State.dueEvent_completes {s : State} {c : Instr} (due : s.dueEvent = some c) :
    ∃ t, exec c s.useFreeValue = .next t := by
  unfold State.dueEvent at due
  iterate 10
    split at due
    · cases due
      exact whenDue_completes ‹_› _
  cases due

/-- A choice in turn answers nothing just where its first does not apply and the rest answers nothing. -/
theorem ite_some_eq_none_iff {α : Type} {b : Bool} {a : α} {rest : Option α} :
    (if b then some a else rest) = none ↔ b = false ∧ rest = none := by
  cases b <;> simp

/-- None is due only where no clock event is. -/
theorem State.dueEvent_eq_none_iff (s : State) :
    s.dueEvent = none ↔
      s.qualificationDue = false ∧ s.overlongDue = false ∧ s.runExpiryDue = false ∧ s.gateOpenDue = false ∧
      s.gateDecisionDue = false ∧ s.freeLineDue = false ∧ s.chsDue = false ∧ s.lineStartDue = false ∧
      s.chsPulseEndDue = false ∧ s.pixelSampleDue = false := by
  simp only [State.dueEvent, ite_some_eq_none_iff, and_true]

theorem step_of_due {s : State} {c : Instr} (idle : s.pending = []) (due : s.dueEvent = some c) :
    step s = exec c s.useFreeValue := by
  simp [step, idle, due]

theorem step_of_none_due {s : State} (idle : s.pending = []) (none : s.dueEvent = none) : step s = .next s.tick := by
  simp [step, idle, none]

theorem State.tick_pending (s : State) : s.tick.pending = s.pending := by
  cases reset : s.pins.resetLow
  · rw [State.tick_of_up reset]
  · rw [State.tick_of_reset reset]

/-- Settles O2, by whether a clock event is due, and by the rows for the queue. -/
theorem idleStepRunsTheClockAndGoesOn : Obligations.IdleStepRunsTheClockAndGoesOn := by
  refine ⟨fun s idle => ⟨fun c due => step_of_due idle due, step_of_none_due idle, ?_⟩, fun s => ?_,
    fun c s t run => exec_pending run⟩
  · cases due : s.dueEvent with
    | none => exact ⟨s.tick, step_of_none_due idle due, s.tick_pending.trans idle⟩
    | some c =>
      obtain ⟨t, run⟩ := State.dueEvent_completes due
      exact ⟨t, (step_of_due idle due).trans run, (exec_pending run).trans idle⟩
  · rw [State.dueEvent_eq_none_iff, and_left_comm (a := s.chsDue = false)]

end Sys2Proof.Machine
end

section
/-! ## The operating settings (10 R166 to R169) -/

namespace Sys2Proof.Machine

open Sys2Proof

/-! ### The codes and ranges of the settings -/

theorem StandardSetting.ofCode_isSome_iff (v : Nat) : (StandardSetting.ofCode v).isSome = true ↔ v ≤ 2 := by
  unfold StandardSetting.ofCode
  split <;> simp_all; omega

theorem Reference.ofCode_isSome_iff (v : Nat) : (Reference.ofCode v).isSome = true ↔ v ≤ 1 := by
  unfold Reference.ofCode
  split <;> simp_all; omega

theorem StandardSetting.code_of_ofCode {v : Nat} {x : StandardSetting} (e : StandardSetting.ofCode v = some x) :
    x.code = v := by
  unfold StandardSetting.ofCode at e
  split at e <;> cases e <;> rfl

theorem Reference.code_of_ofCode {v : Nat} {x : Reference} (e : Reference.ofCode v = some x) : x.code = v := by
  unfold Reference.ofCode at e
  split at e <;> cases e <;> rfl

theorem StandardSetting.ofCode_code (x : StandardSetting) : StandardSetting.ofCode x.code = some x := by
  cases x <;> rfl

theorem StandardSetting.code_injective {x y : StandardSetting} (same : x.code = y.code) : x = y :=
  Option.some.inj (by rw [← x.ofCode_code, same, y.ofCode_code])

/-- The standard that a forced setting stands for, by its code (01 R16). -/
theorem StandardSetting.forced_eq (x : StandardSetting) (before : LineStandard) :
    x.forced.getD before = if x.code = 1 then .s625 else if x.code = 2 then .s525 else before := by
  cases x <;> rfl

/-- The good values of the two choice settings (10 R166). -/
theorem settingChoiceOk_iff (item value : Nat) :
    settingChoiceOk item value = true ↔ (item = 1 → value ≤ 2) ∧ (item = 2 → value ≤ 1) := by
  unfold settingChoiceOk
  split
  · simp [StandardSetting.ofCode_isSome_iff]
  · simp [Reference.ofCode_isSome_iff]
  · simp_all

theorem clamp_eq_within {lo hi : Nat} (le : lo ≤ hi) (v : Nat) : clamp lo hi v = within lo hi v := by
  unfold clamp within
  split
  · omega
  · split <;> omega

/-- A choice is taken as it is given. -/
theorem settingValue_choice {item : Nat} (choice : item ≤ 2) (value : Nat) : settingValue item value = value :=
  if_pos choice

/-- A number is brought within the range of its item. -/
theorem settingValue_number {item : Nat} (number : 2 < item) (value : Nat) :
    settingValue item value = clamp (settingRange item).1 (settingRange item).2 value :=
  if_neg (Nat.not_le.mpr number)

/-- The value that each item takes, with its range written out (10, table of settings). -/
def settingTaken (item value : Nat) : Nat :=
  match item with
  | 3 => within 256 1024 value
  | 4 => within 4 39 value
  | 5 => within 1536 2559 value
  | 6 => within 0 6 value
  | 7 => within 4 10 value
  | 8 => within 8 200 value
  | 9 => within 1 63 value
  | 10 => within 1 15 value
  | 11 => within 1 255 value
  | 12 => within 0 63 value
  | 13 => within 0 15 value
  | _ => value

theorem settingValue_eq_taken {item : Nat} (low : 1 ≤ item) (high : item ≤ 13) (value : Nat) :
    settingValue item value = settingTaken item value := by
  by_cases choice : item ≤ 2
  · rw [settingValue_choice choice]
    interval_cases item <;> rfl
  · rw [settingValue_number (Nat.lt_of_not_le choice)]
    interval_cases item <;> exact clamp_eq_within (by decide) value

/-- A choice in its codes is still so as taken. -/
theorem settingChoiceOk_taken {item value : Nat} (ok : settingChoiceOk item value = true) :
    settingChoiceOk item (settingValue item value) = true := by
  by_cases choice : item ≤ 2
  · rwa [settingValue_choice choice]
  · exact (settingChoiceOk_iff _ _).mpr ⟨by omega, by omega⟩

/-! ### A setting written (10 R167) -/

/-- A write of another value of STANDARD empties the classes and takes the standard it forces (01 R16). -/
theorem State.writeStandard_changed {s : State} {x : StandardSetting} (ne : x ≠ s.settings.standard) :
    s.writeStandard x =
      { s with
        settings := { s.settings with standard := x }
        sq := { s.sq with classes := [], standard := x.forced.getD s.sq.standard } } :=
  if_neg ne

theorem State.writeStandard_same {s : State} {x : StandardSetting} (same : x = s.settings.standard) :
    s.writeStandard x = s :=
  if_pos same

theorem State.writeStandard_settings (s : State) (x : StandardSetting) :
    (s.writeStandard x).settings = { s.settings with standard := x } := by
  by_cases same : x = s.settings.standard
  · rw [State.writeStandard_same same, same]
  · rw [State.writeStandard_changed same]

theorem State.writeStandard_frame (s : State) (x : StandardSetting) :
    s.writeStandard x = { s with settings := (s.writeStandard x).settings, sq := (s.writeStandard x).sq } := by
  by_cases same : x = s.settings.standard
  · rw [State.writeStandard_same same]
  · rw [State.writeStandard_changed same]

theorem State.writeSetting_one {s : State} {v : Nat} {x : StandardSetting} (e : StandardSetting.ofCode v = some x) :
    s.writeSetting 1 v = s.writeStandard x := by
  simp [State.writeSetting, e]

theorem State.writeSetting_two {s : State} {v : Nat} {x : Reference} (e : Reference.ofCode v = some x) :
    s.writeSetting 2 v = { s with settings := { s.settings with reference := x } } := by
  simp [State.writeSetting, e]

/-- HSPAN takes P with it where it changes (02 R33). -/
theorem State.writeSetting_five (s : State) (v : Nat) :
    s.writeSetting 5 v =
      { s with
        settings := { s.settings with hspan := v }
        lle := if v = s.settings.hspan then s.lle else { s.lle with period := v * 256 } } := by
  by_cases same : v = s.settings.hspan <;> simp [State.writeSetting, same]

/-- A setting written touches the settings, the SQ and the LLE. -/
theorem State.writeSetting_frame (s : State) (item v : Nat) :
    s.writeSetting item v =
      { s with
        settings := (s.writeSetting item v).settings, sq := (s.writeSetting item v).sq
        lle := (s.writeSetting item v).lle } := by
  unfold State.writeSetting
  dsimp only
  split
  case h_1 =>
    split
    · rfl
    · rw [State.writeStandard_frame]
  case h_2 => split <;> rfl
  case h_5 => split <;> rfl
  all_goals rfl

/-- Only STANDARD reaches the SQ (01 R16). -/
theorem State.writeSetting_sq {s : State} {item : Nat} (ne : item ≠ 1) (v : Nat) :
    (s.writeSetting item v).sq = s.sq := by
  unfold State.writeSetting
  dsimp only
  split
  case h_1 => exact absurd rfl ne
  case h_2 => split <;> rfl
  case h_5 => split <;> rfl
  all_goals rfl

/-- Only HSPAN, SLIP LIMIT and HOLD LIMIT reach the LLE (02 R33). -/
theorem State.writeSetting_lle {s : State} {item : Nat} (ne5 : item ≠ 5) (ne10 : item ≠ 10) (ne11 : item ≠ 11)
    (v : Nat) :
    (s.writeSetting item v).lle = s.lle := by
  unfold State.writeSetting
  dsimp only
  split
  case h_1 =>
    split
    · rfl
    · rw [State.writeStandard_frame]
  case h_2 => split <;> rfl
  case h_5 => exact absurd rfl ne5
  case h_10 => exact absurd rfl ne10
  case h_11 => exact absurd rfl ne11
  all_goals rfl

/-- A written setting reads back as written, where a choice is one of its codes (10 R168). -/
theorem State.settingOf_writeSetting_same {s : State} {item v : Nat} (low : 1 ≤ item) (high : item ≤ 13)
    (choice : settingChoiceOk item v = true) : (s.writeSetting item v).settingOf item = v := by
  obtain ⟨ok1, ok2⟩ := (settingChoiceOk_iff item v).mp choice
  by_cases one : item = 1
  · subst one
    obtain ⟨x, e⟩ := Option.isSome_iff_exists.mp ((StandardSetting.ofCode_isSome_iff v).mpr (ok1 rfl))
    rw [State.writeSetting_one e, State.settingOf]
    simp only [State.writeStandard_settings]
    exact StandardSetting.code_of_ofCode e
  by_cases two : item = 2
  · subst two
    obtain ⟨x, e⟩ := Option.isSome_iff_exists.mp ((Reference.ofCode_isSome_iff v).mpr (ok2 rfl))
    rw [State.writeSetting_two e]
    exact Reference.code_of_ofCode e
  by_cases five : item = 5
  · subst five
    rw [State.writeSetting_five]
    rfl
  · unfold State.writeSetting
    dsimp only
    split
    case h_1 => exact absurd rfl one
    case h_2 => exact absurd rfl two
    case h_5 => exact absurd rfl five
    case h_14 => grind
    all_goals rfl

/-- No setting written is read under another item (10 R168): for each item written, every item read is another field,
or the one written, which `ne` excludes. -/
theorem State.settingOf_writeSetting_other {s : State} {item j : Nat} (ne : j ≠ item) (v : Nat) :
    (s.writeSetting item v).settingOf j = s.settingOf j := by
  unfold State.writeSetting
  dsimp only
  split
  case h_1 =>
    split
    · rfl
    · rename_i x _
      rw [State.writeStandard_frame, State.writeStandard_settings]
      unfold State.settingOf
      split <;> first | rfl | contradiction
  case h_2 => split <;> (unfold State.settingOf; split <;> first | rfl | contradiction)
  case h_5 => split <;> (unfold State.settingOf; split <;> first | rfl | contradiction)
  all_goals unfold State.settingOf; split <;> first | rfl | contradiction

/-- STANDARD written to the value it has changes nothing, and to another what 01 R16 says. -/
theorem State.writeSetting_standard_sq {s : State} {v : Nat} (choice : v ≤ 2) :
    (v = s.settings.standard.code → (s.writeSetting 1 v).sq = s.sq) ∧
    (v ≠ s.settings.standard.code →
      (s.writeSetting 1 v).sq =
        { s.sq with
          classes := [], standard := if v = 1 then .s625 else if v = 2 then .s525 else s.sq.standard }) := by
  obtain ⟨x, e⟩ := Option.isSome_iff_exists.mp ((StandardSetting.ofCode_isSome_iff v).mpr choice)
  have code := StandardSetting.code_of_ofCode e
  rw [State.writeSetting_one e]
  refine ⟨fun same => ?_, fun differs => ?_⟩
  · rw [State.writeStandard_same (StandardSetting.code_injective (code.trans same))]
  · rw [State.writeStandard_changed fun same => differs (by rw [← code, same]), StandardSetting.forced_eq, code]

/-! ### SET MODE -/

theorem exec_setMode {s : State} {item lo : Byte} (w : s.Awaits .setMode [item, lo]) (hi : Byte) :
    exec (.setMode hi) s = .next (finish 0x40 (doSetMode [item, lo, hi] s.endCollection)) :=
  congrArg Host.Outcome.next (State.lastByte_performed w hi Command.setMode.code doSetMode)

/-- SET MODE in its checks: the item, the choice, the need of STANDBY, and then the write (10 R166). -/
theorem doSetMode_eq (item lo hi : Byte) (s : State) :
    doSetMode [item, lo, hi] s =
      let value := lo.toNat + 256 * hi.toNat
      if item.toNat < 1 ∨ 13 < item.toNat then (s, Reply.badItem 1)
      else if settingChoiceOk item.toNat value = false then (s, Reply.badChoice 2)
      else if item.toNat ≤ 5 ∧ s.lle.lock ≠ .standby then (s, Reply.check .notInStandby s.lle.lock.code 0 0)
      else
        (s.writeSetting item.toNat (settingValue item.toNat value),
          if settingValue item.toNat value = value then Reply.good [] else Reply.adjusted 0 2 []) := rfl

theorem State.endCollection_writeStandard (s : State) (x : StandardSetting) :
    s.endCollection.writeStandard x = (s.writeStandard x).endCollection := by
  by_cases same : x = s.settings.standard
  · rw [State.writeStandard_same same, State.writeStandard_same (s := s.endCollection) same]
  · rw [State.writeStandard_changed same, State.writeStandard_changed (s := s.endCollection) same]
    rfl

/-- A write passes the end of the collection. -/
theorem State.endCollection_writeSetting (s : State) (item v : Nat) :
    s.endCollection.writeSetting item v = (s.writeSetting item v).endCollection := by
  by_cases five : item = 5
  · rw [five, State.writeSetting_five, State.writeSetting_five]
    rfl
  · unfold State.writeSetting
    dsimp only
    split
    case h_1 =>
      split
      · rfl
      · exact State.endCollection_writeStandard _ _
    case h_2 => split <;> rfl
    case h_5 => exact absurd rfl five
    all_goals rfl

section

variable {s : State} {item lo : Byte} (w : s.Awaits .setMode [item, lo]) (hi : Byte)

include w

theorem exec_setMode_badItem (bad : item.toNat = 0 ∨ 13 < item.toNat) :
    exec (.setMode hi) s = .next (s.answered 0x40 (Reply.badItem 1)) := by
  rw [exec_setMode w, doSetMode_eq]
  dsimp only
  rw [if_pos (by omega), finish_endCollection]

theorem exec_setMode_badChoice (low : 1 ≤ item.toNat) (high : item.toNat ≤ 13)
    (bad : settingChoiceOk item.toNat (lo.toNat + 256 * hi.toNat) = false) :
    exec (.setMode hi) s = .next (s.answered 0x40 (Reply.badChoice 2)) := by
  rw [exec_setMode w, doSetMode_eq]
  dsimp only
  rw [if_neg (by omega), if_pos bad, finish_endCollection]

theorem exec_setMode_notInStandby (low : 1 ≤ item.toNat) (high : item.toNat ≤ 13)
    (ok : settingChoiceOk item.toNat (lo.toNat + 256 * hi.toNat) = true) (five : item.toNat ≤ 5)
    (lock : s.lle.lock ≠ .standby) :
    exec (.setMode hi) s = .next (s.answered 0x40 (Reply.check .notInStandby s.lle.lock.code 0 0)) := by
  rw [exec_setMode w, doSetMode_eq]
  dsimp only
  rw [if_neg (by omega), if_neg (by simp [ok]), State.endCollection_lle, if_pos ⟨five, lock⟩, finish_endCollection]

theorem exec_setMode_written (low : 1 ≤ item.toNat) (high : item.toNat ≤ 13)
    (ok : settingChoiceOk item.toNat (lo.toNat + 256 * hi.toNat) = true)
    (standby : item.toNat ≤ 5 → s.lle.lock = .standby) {v : Nat}
    (taken : settingValue item.toNat (lo.toNat + 256 * hi.toNat) = v) :
    exec (.setMode hi) s =
      .next ((s.writeSetting item.toNat v).answered 0x40
        (if v = lo.toNat + 256 * hi.toNat then Reply.good [] else Reply.adjusted 0 2 [])) := by
  rw [exec_setMode w, doSetMode_eq]
  dsimp only
  rw [if_neg (by omega), if_neg (by simp [ok]), State.endCollection_lle,
    if_neg fun both => both.2 (standby both.1), taken, State.endCollection_writeSetting, finish_endCollection]

end

/-! ### REPORT MODE and SET EVENTS (10 R168, R169) -/

theorem exec_reportMode {s : State} (w : s.Awaits .reportMode []) (item : Byte) :
    exec (.reportMode item) s = .next (finish 0x41 (doReportMode [item] s.endCollection)) :=
  congrArg Host.Outcome.next (State.lastByte_performed w item Command.reportMode.code doReportMode)

theorem doReportMode_eq (item : Byte) (s : State) :
    doReportMode [item] s =
      if item.toNat < 1 ∨ 17 < item.toNat then (s, Reply.badItem 1)
      else (s, Reply.good (wordBytes (s.settingOf item.toNat))) := rfl

theorem exec_setEvents {s : State} {lo : Byte} (w : s.Awaits .setEvents [lo]) (hi : Byte) :
    exec (.setEvents hi) s = .next (finish 0x42 (doSetEvents [lo, hi] s.endCollection)) :=
  congrArg Host.Outcome.next (State.lastByte_performed w hi Command.setEvents.code doSetEvents)

theorem doSetEvents_eq (lo hi : Byte) (s : State) :
    doSetEvents [lo, hi] s =
      let set := lo.toNat + 256 * hi.toNat
      if 4096 ≤ set then (s, Reply.badChoice 2)
      else
        ({ s with cpr := { s.cpr with
            enables := BitVec.ofNat 16 set, events := s.cpr.events &&& BitVec.ofNat 16 set } }, Reply.good []) := rfl

/-- Two bytes as one word, the low byte given first. -/
theorem ofNat_word_eq_append (lo hi : Byte) : BitVec.ofNat 16 (lo.toNat + 256 * hi.toNat) = hi ++ lo := by
  apply BitVec.eq_of_toNat_eq
  rw [BitVec.toNat_append, BitVec.toNat_ofNat, ← Nat.shiftLeft_add_eq_or_of_lt lo.isLt, Nat.shiftLeft_eq]
  have := lo.isLt
  have := hi.isLt
  omega

/-- Settles O53: the three commands check by check, and the settings item by item. -/
theorem settingsAreCheckedClampedWrittenAndReported : Obligations.SettingsAreCheckedClampedWrittenAndReported := by
  refine ⟨fun s item lo hi w => ?_, fun s item w => ⟨fun bad => ?_, fun low high => ?_⟩, fun s => ?_,
    fun s lo hi w => ⟨fun small => ?_, fun big => ?_⟩⟩
  · intro value v
    refine ⟨exec_setMode_badItem w hi, fun bad => ?_, fun low high ok1 ok2 => ?_⟩
    · refine exec_setMode_badChoice w hi (by omega) (by omega) (Bool.eq_false_iff.mpr fun ok => ?_)
      obtain ⟨ok1, ok2⟩ := (settingChoiceOk_iff _ _).mp ok
      change (item.toNat = 1 ∧ 3 ≤ lo.toNat + 256 * hi.toNat) ∨ (item.toNat = 2 ∧ 2 ≤ lo.toNat + 256 * hi.toNat) at bad
      omega
    · have ok : settingChoiceOk item.toNat value = true := (settingChoiceOk_iff _ _).mpr ⟨ok1, ok2⟩
      have taken : settingValue item.toNat value = v := settingValue_eq_taken low high value
      have okv : settingChoiceOk item.toNat v = true := taken ▸ settingChoiceOk_taken ok
      have choice : item.toNat = 1 → v ≤ 2 := ((settingChoiceOk_iff _ _).mp okv).1
      refine ⟨exec_setMode_notInStandby w hi low high ok, fun standby => ?_⟩
      refine ⟨exec_setMode_written w hi low high ok standby taken, State.settingOf_writeSetting_same low high okv,
        fun j _ _ ne => State.settingOf_writeSetting_other ne v, State.writeSetting_frame _ _ _, ?_, ?_, ?_, ?_, ?_,
        fun ne5 ne10 ne11 => State.writeSetting_lle ne5 ne10 ne11 v⟩
      · rintro (ne | same)
        · exact State.writeSetting_sq ne v
        · by_cases one : item.toNat = 1
          · rw [one]
            exact (State.writeSetting_standard_sq (choice one)).1 same
          · exact State.writeSetting_sq one v
      · intro one differs
        rw [one]
        exact (State.writeSetting_standard_sq (choice one)).2 differs
      · intro five
        rw [five, State.writeSetting_five]
      · intro ten
        rw [ten]; rfl
      · intro eleven
        rw [eleven]; rfl
  · rw [exec_reportMode w, doReportMode_eq, if_pos (by omega), finish_endCollection]; rfl
  · rw [exec_reportMode w, doReportMode_eq, if_neg (by omega), finish_endCollection]; rfl
  · refine ⟨?_, ?_, rfl, rfl, rfl, rfl, rfl, rfl, rfl, rfl, rfl, rfl, rfl, rfl, rfl, rfl, rfl⟩
    · cases standard : s.settings.standard <;> simp [State.settingOf, StandardSetting.code, standard]
    · cases reference : s.settings.reference <;> simp [State.settingOf, Reference.code, reference]
  · rw [exec_setEvents w, doSetEvents_eq]
    dsimp only
    rw [if_neg (by have := lo.isLt; omega), ofNat_word_eq_append, finish_eq_answered _ _ _ rfl]
    rfl
  · rw [exec_setEvents w, doSetEvents_eq]
    dsimp only
    rw [if_pos (by omega), finish_endCollection]
    rfl

end Sys2Proof.Machine
end

section
/-! ## What one row of the part can leave -/

namespace Sys2Proof.Machine

open Sys2Proof

/-! ### The states that a row can leave -/

/-- An access of the host that performs nothing: it changes the port and the palette alone, and of the port neither the
enables, the events, the notices nor the attention reasons (11 R172 to R175, 08 R150 to R153). -/
structure State.Access (s t : State) : Prop where
  frame : t = { s with cpr := t.cpr, op := t.op }
  enables : t.cpr.enables = s.cpr.enables
  events : t.cpr.events = s.cpr.events
  notices : t.cpr.notices = s.cpr.notices
  attention : t.cpr.attention = s.cpr.attention

theorem State.Access.refl (s : State) : s.Access s := ⟨rfl, rfl, rfl, rfl, rfl⟩

theorem State.openCommand_access (s : State) : s.Access s.openCommand := ⟨rfl, rfl, rfl, rfl, rfl⟩

theorem State.endCollection_access (s : State) : s.Access s.endCollection := ⟨rfl, rfl, rfl, rfl, rfl⟩

theorem State.portFault_access (s : State) : s.Access s.portFault := ⟨rfl, rfl, rfl, rfl, rfl⟩

/-- The states that one row can leave: the work of power, of CSYNC and of the part's clock, an access of the host that
performs nothing, a performed command, and the refusal of an unknown command byte. -/
inductive State.Row (s : State) : State → Prop
  | powerOn (csync : Level) : s.Row (s.powerOn csync)
  | pinResetStart : s.Row s.pinResetStart
  | pinReset : s.Row s.pinReset
  | csyncDuringReset (level : Level) : s.Row (s.csyncDuringReset level)
  | beginPulse : s.Row { s.beginPulse with pins := { s.pins with csync := .low } }
  | endPulse : s.Row { s.endPulse with pins := { s.pins with csync := .high } }
  | qualify (due : s.qualificationDue = true) : s.Row s.qualify
  | overlong (due : s.overlongDue = true) : s.Row (s.classify .overlong .overlong)
  | runExpiry (due : s.runExpiryDue = true) : s.Row { s with sq := s.sq.afterRunExpiry }
  | gateOpen (due : s.gateOpenDue = true) :
      s.Row { s with lle := { s.lle with
        gateOpen := true, gateEdge := some { edge := s.lle.edge, halfWidth := s.settings.gate } } }
  | missingLine (due : s.gateDecisionDue = true) : s.Row s.missingLine
  | freeLine (due : s.freeLineDue = true) : s.Row { s with lle := s.lle.decideWithoutEdge }
  | lineStart (due : s.lineStartDue = true) (cues : CueLevels) (cueFirst : Bool) : s.Row (s.lineStart cues cueFirst)
  | takeSample (due : s.pixelSampleDue = true) (index : BitVec 4) : s.Row (s.takeSample index)
  | emitChs (due : s.chsDue = true) : s.Row (s.emitChs s.lle.y s.stg.vdelay)
  | chsPulseEnd (due : s.chsPulseEndDue = true) : s.Row { s with stg := { s.stg with chsLowUntil := none } }
  | access {t : State} (access : s.Access t) : s.Row t
  | perform {t : State} (access : s.Access t) (c : Command) (ps : List Byte) : s.Row (perform c ps t)
  | refuseUnknown {t : State} (access : s.Access t) (code : Byte) : s.Row (refuseUnknown code t)

/-! ### The accesses of the host -/

theorem State.writeCommand_row (s : State) (code : Byte) : s.Row (s.writeCommand code) := by
  unfold State.writeCommand
  split
  · exact .access (.refl s)
  · split
    · exact .refuseUnknown s.openCommand_access code
    · split
      · exact .perform s.openCommand_access _ _
      · exact .access ⟨rfl, rfl, rfl, rfl, rfl⟩

theorem State.writeParameter_row (s : State) (b : Byte) : s.Row (s.writeParameter b) := by
  unfold State.writeParameter
  split
  · exact .access (.refl s)
  · split
    · exact .access s.portFault_access
    · split
      · exact .perform s.endCollection_access _ _
      · exact .access ⟨rfl, rfl, rfl, rfl, rfl⟩

/-- The row of a last byte performs its command, or is the parameter write that its byte is (log 2). -/
theorem State.lastByte_row (s : State) (c d : Command) (b : Byte) (params : List Byte → List Byte) :
    s.Row (s.lastByte c b fun ps => Machine.perform d (params ps)) := by
  obtain eq | eq | ⟨ps, -, eq⟩ := s.lastByte_cases c b fun ps => Machine.perform d (params ps)
  · rw [eq]; exact .access (.refl s)
  · rw [eq]; exact s.writeParameter_row b
  · rw [eq]; exact .perform s.endCollection_access d _

theorem State.commandRow_row (s : State) (c : Command) : s.Row (s.commandRow (Machine.perform c [])) := by
  unfold State.commandRow
  split
  · exact .access (.refl s)
  · exact .perform s.openCommand_access c []

theorem State.readAccess_row (s : State) (byte : Byte) {t : State} (access : s.Access t) :
    s.Row (s.readAccess byte t) := by
  unfold State.readAccess
  split
  · exact .access ⟨rfl, rfl, rfl, rfl, rfl⟩
  · exact .access ⟨by rw [access.frame], access.enables, access.events, access.notices, access.attention⟩

theorem State.readResult_row (s : State) : s.Row s.readResult := by
  unfold State.readResult
  split
  · exact s.readAccess_row 0 s.portFault_access
  · exact s.readAccess_row _ (by constructor <;> rfl)

theorem State.writePaletteAddress_row (s : State) (b : Byte) : s.Row (s.writePaletteAddress b) := by
  unfold State.writePaletteAddress
  split
  · exact .access (.refl s)
  · exact .access ⟨rfl, rfl, rfl, rfl, rfl⟩

theorem State.writePaletteData_row (s : State) (b : Byte) : s.Row (s.writePaletteData b) := by
  unfold State.writePaletteData
  split
  · exact .access (.refl s)
  · split <;> exact .access ⟨rfl, rfl, rfl, rfl, rfl⟩

theorem State.readPaletteData_row (s : State) : s.Row s.readPaletteData := by
  unfold State.readPaletteData
  split <;> exact s.readAccess_row _ (by constructor <;> rfl)

/-! ### The rows with a mode -/

/-- The handle as collected and the mode that the row names: the two parameters of RETIRE TITLE and HALT (04 R73,
05 R94). -/
def withMode (mode : Byte) (ps : List Byte) : List Byte := [ps.getD 0 0, mode]

/-! ### Every row -/

theorem State.Row.of_next {s t u : State} (run : (.next u : Host.Outcome State Fault Refusal) = .next t)
    (row : s.Row u) : s.Row t := by
  cases run
  exact row

theorem State.Row.of_whenDue {s t u : State} {due : Bool} (run : whenDue due u = .next t)
    (row : due = true → s.Row u) : s.Row t := by
  obtain ⟨isDue, rfl⟩ := whenDue_eq_next_iff.mp run
  exact row isDue

theorem execCsyncFallingEdge_row {s t : State} (run : execCsyncFallingEdge s = .next t) : s.Row t := by
  unfold execCsyncFallingEdge at run
  split at run
  · cases run
  · split at run
    · exact .of_next run (.csyncDuringReset .low)
    · split at run
      · exact .of_next run .beginPulse
      · cases run

theorem execCsyncRisingEdge_row {s t : State} (run : execCsyncRisingEdge s = .next t) : s.Row t := by
  unfold execCsyncRisingEdge at run
  split at run
  · cases run
  · split at run
    · exact .of_next run (.csyncDuringReset .high)
    · split at run
      · cases run
      · exact .of_next run .endPulse

/-- What a command can leave, row by row. -/
theorem exec_row {c : Instr} {s t : State} (run : exec c s = .next t) : s.Row t := by
  cases c with
  | powerOn csync => exact .of_next run (.powerOn csync)
  | pinResetStart => exact .of_next run .pinResetStart
  | pinReset => exact .of_next run .pinReset
  | csyncFallingEdge => exact execCsyncFallingEdge_row run
  | csyncRisingEdge => exact execCsyncRisingEdge_row run
  | qualificationExpiry => exact .of_whenDue run .qualify
  | overlongExpiry => exact .of_whenDue run .overlong
  | runExpiry => exact .of_whenDue run .runExpiry
  | gateOpen => exact .of_whenDue run .gateOpen
  | gateDecisionExpiry => exact .of_whenDue run .missingLine
  | freeLineDecision => exact .of_whenDue run .freeLine
  | lineStart cues cueFirst => exact .of_whenDue run fun due => .lineStart due cues cueFirst
  | pixelSample index => exact .of_whenDue run fun due => .takeSample due index
  | chs => exact .of_whenDue run .emitChs
  | chsPulseEnd => exact .of_whenDue run .chsPulseEnd
  | createTitle b => exact .of_next run (s.lastByte_row _ .createTitle b id)
  | amendTitle b => exact .of_next run (s.lastByte_row _ .amendTitle b id)
  | queryTitle b => exact .of_next run (s.lastByte_row _ .queryTitle b id)
  | listTitles b => exact .of_next run (s.lastByte_row _ .listTitles b id)
  | hitTest b => exact .of_next run (s.lastByte_row _ .hitTest b id)
  | retireTitleImmediate => exact .of_next run (s.lastByte_row _ .retireTitle 0 (withMode 0))
  | retireTitleGraceful => exact .of_next run (s.lastByte_row _ .retireTitle 1 (withMode 1))
  | haltImmediate => exact .of_next run (s.lastByte_row _ .halt 0 (withMode 0))
  | haltDecelerated => exact .of_next run (s.lastByte_row _ .halt 1 (withMode 1))
  | arm b => exact .of_next run (s.lastByte_row _ .arm b id)
  | disarm b => exact .of_next run (s.lastByte_row _ .disarm b id)
  | start b => exact .of_next run (s.lastByte_row _ .start b id)
  | leave b => exact .of_next run (s.lastByte_row _ .leave b id)
  | resume b => exact .of_next run (s.lastByte_row _ .resume b id)
  | rearm b => exact .of_next run (s.lastByte_row _ .rearm b id)
  | setTiming b => exact .of_next run (s.lastByte_row _ .setTiming b id)
  | discardPending b => exact .of_next run (s.lastByte_row _ .discardPending b id)
  | setMode b => exact .of_next run (s.lastByte_row _ .setMode b id)
  | reportMode b => exact .of_next run (s.lastByte_row _ .reportMode b id)
  | setEvents b => exact .of_next run (s.lastByte_row _ .setEvents b id)
  | setCueLine b => exact .of_next run (s.lastByte_row _ .setCueLine b id)
  | reportCondition b => exact .of_next run (s.lastByte_row _ .reportCondition b id)
  | resetTitles => exact .of_next run (s.commandRow_row .resetTitles)
  | cutAll => exact .of_next run (s.commandRow_row .cutAll)
  | holdAmendments => exact .of_next run (s.commandRow_row .holdAmendments)
  | applyAmendments => exact .of_next run (s.commandRow_row .applyAmendments)
  | queryPending => exact .of_next run (s.commandRow_row .queryPending)
  | enterStandby => exact .of_next run (s.commandRow_row .enterStandby)
  | leaveStandby => exact .of_next run (s.commandRow_row .leaveStandby)
  | reportCueLines => exact .of_next run (s.commandRow_row .reportCueLines)
  | reportLock => exact .of_next run (s.commandRow_row .reportLock)
  | readEvents => exact .of_next run (s.commandRow_row .readEvents)
  | readNotices => exact .of_next run (s.commandRow_row .readNotices)
  | unknownCommand b | commandByteWrite b => exact .of_next run (s.writeCommand_row b)
  | strayParameterByte b | parameterByteWrite b => exact .of_next run (s.writeParameter_row b)
  | resultRead => exact .of_next run s.readResult_row
  | statusRead => exact .of_next run (s.readAccess_row _ (by constructor <;> rfl))
  | paletteAddressRead => exact .of_next run (s.readAccess_row 0 s.portFault_access)
  | paletteAddressWrite b => exact .of_next run (s.writePaletteAddress_row b)
  | paletteDataWrite b => exact .of_next run (s.writePaletteData_row b)
  | paletteDataRead => exact .of_next run s.readPaletteData_row

/-- What a step can leave: a row over the state with another queue of commands and count of free values, or one cc
(log 1). -/
theorem step_cases {s t : State} (run : step s = .next t) :
    (∃ queue index, State.Row { s with pending := queue, freeIndex := index } t) ∨ t = s.tick := by
  unfold step at run
  split at run
  · rename_i rest _
    exact .inl ⟨rest, s.freeIndex, exec_row run⟩
  · split at run
    · exact .inl ⟨s.pending, s.freeIndex + 1, exec_row run⟩
    · cases run
      exact .inr rfl

end Sys2Proof.Machine
end

section
/-! ## The acquisition edge set (02 R28, R29) -/

namespace Sys2Proof.Machine

open Sys2Proof

theorem intervals_cons_cons (a b : Timestamp) (es : List Timestamp) :
    intervals (a :: b :: es) = (b - a).toNat :: intervals (b :: es) := rfl

/-- Between the edges of a set lies one interval fewer than there are edges. -/
theorem intervals_length (es : List Timestamp) : (intervals es).length = es.length - 1 := by
  induction es with
  | nil => rfl
  | cons a rest ih =>
    cases rest with
    | nil => rfl
    | cons b rest => rw [intervals_cons_cons, List.length_cons, ih]; rfl

/-- The test of 02 R28 without a mean: an interval within its range, and k times it within 4 × k of the sum. -/
theorem setPasses_iff (es : List Timestamp) :
    setPasses es = true ↔
      ∀ i ∈ intervals es, 1536 ≤ i ∧ i ≤ 2559 ∧
        ((intervals es).length * (i : Int) - ((intervals es).sum : Int)).natAbs ≤ 4 * (intervals es).length := by
  simp only [setPasses, List.all_eq_true, Bool.and_eq_true, decide_eq_true_eq, and_assoc]
  refine forall₂_congr fun i _ => and_congr_right fun _ => and_congr_right fun _ => ?_
  rw [← Int.natCast_mul]
  generalize (intervals es).length * i = product
  omega

theorem setPasses_nil : setPasses [] = true := rfl

theorem trimmed_passes (es : List Timestamp) : setPasses (trimmed es) = true := by
  induction es with
  | nil => exact setPasses_nil
  | cons t rest ih =>
    unfold trimmed
    split
    · assumption
    · exact ih

theorem trimmed_suffix (es : List Timestamp) : trimmed es <:+ es := by
  induction es with
  | nil => exact List.suffix_refl []
  | cons t rest ih =>
    unfold trimmed
    split
    · exact List.suffix_refl _
    · exact ih.trans (List.suffix_cons t rest)

/-- No edge is lost that need not be: what is left is as long as any later part of the set that passes. -/
theorem trimmed_longest {es rest : List Timestamp} (part : rest <:+ es) (passes : setPasses rest = true) :
    rest.length ≤ (trimmed es).length := by
  induction es with
  | nil => exact part.length_le
  | cons t tail ih =>
    unfold trimmed
    split
    · exact part.length_le
    · rename_i fails
      obtain whole | part := List.suffix_cons_iff.mp part
      · exact absurd (whole ▸ passes) fails
      · exact ih part

/-- The sum of intervals of 1536 to 2559 cc each. -/
theorem sum_intervals_range {l : List Nat} (each : ∀ i ∈ l, 1536 ≤ i ∧ i ≤ 2559) :
    1536 * l.length ≤ l.sum ∧ l.sum ≤ 2559 * l.length := by
  induction l with
  | nil => simp
  | cons i rest ih =>
    obtain ⟨first, later⟩ := List.forall_mem_cons.mp each
    have := ih later
    rw [List.sum_cons, List.length_cons]
    omega

/-- The P that acquisition takes from a set that passes with 8 edges (02 R29). -/
theorem acquired_period_range {es : List Timestamp} (passes : setPasses es = true) (eight : es.length = 8) :
    393216 ≤ (intervals es).sum * 256 / 7 ∧ (intervals es).sum * 256 / 7 ≤ 655359 := by
  have range := sum_intervals_range (l := intervals es) fun i member => by
    obtain ⟨low, high, -⟩ := (setPasses_iff es).mp passes i member
    exact ⟨low, high⟩
  rw [intervals_length, eight] at range
  omega

/-- Settles O11: the test, the trimming and the range of P, each by its own lemma. -/
theorem acquisitionSetIsTrimmedUntilItPasses : Obligations.AcquisitionSetIsTrimmedUntilItPasses :=
  ⟨⟨rfl, fun a => ⟨rfl, fun b es => intervals_cons_cons a b es⟩⟩, setPasses_iff, trimmed_passes, trimmed_suffix,
    fun _ _ => trimmed_longest, fun _ => acquired_period_range⟩

end Sys2Proof.Machine
end

section
/-! ## The queue, P and HSPAN, and the spans stay within their limits (07 R121, 02 R20, 10 R166, 08 R138) -/

namespace Sys2Proof.Machine

open Sys2Proof

/-! ### Steps that keep the limits -/

/-- From the one state to the other the three limits are kept. -/
structure State.KeepsLimits (s t : State) : Prop where
  queue : s.QueueWithinLimits → t.QueueWithinLimits
  period : s.PeriodWithinRange → t.PeriodWithinRange
  spans : s.SpansWithinLimits → t.SpansWithinLimits

namespace State.KeepsLimits

variable {s t u : State}

theorem trans (a : s.KeepsLimits t) (b : t.KeepsLimits u) : s.KeepsLimits u :=
  ⟨b.queue ∘ a.queue, b.period ∘ a.period, b.spans ∘ a.spans⟩

/-- A step that leaves P and HSPAN, loses entries at most, and keeps the spans within theirs. -/
theorem of_spans (entries : t.aq.entries.Sublist s.aq.entries) (period : t.lle.period = s.lle.period)
    (hspan : t.settings.hspan = s.settings.hspan) (spans : s.SpansWithinLimits → t.SpansWithinLimits) :
    s.KeepsLimits t where
  queue := fun q => ⟨entries.length_le.trans q.occupancy, q.distinct.sublist entries⟩
  period := fun p => ⟨period ▸ p.period, hspan ▸ p.hspan⟩
  spans := spans

/-- A step that leaves the span lists too. -/
theorem of_frame (entries : t.aq.entries.Sublist s.aq.entries) (period : t.lle.period = s.lle.period)
    (hspan : t.settings.hspan = s.settings.hspan) (waiting : t.sbk.waiting = s.sbk.waiting)
    (keying : t.sbk.keying = s.sbk.keying) : s.KeepsLimits t :=
  of_spans entries period hspan fun k => ⟨waiting ▸ k.waiting, keying ▸ k.keying⟩

theorem refl (s : State) : s.KeepsLimits s := of_frame (.refl _) rfl rfl rfl rfl

theorem of_core (core : s.SameCore t) (entries : t.aq.entries.Sublist s.aq.entries) : s.KeepsLimits t :=
  of_frame entries (by rw [core.lle]) (by rw [core.settings]) (by rw [core.sbk]) (by rw [core.sbk])

/-- A step that writes the LLE and the port alone, with P in its range. -/
theorem of_lle (frame : t = { s with lle := t.lle, cpr := t.cpr })
    (period : s.PeriodWithinRange → 393216 ≤ t.lle.period ∧ t.lle.period ≤ 655359) : s.KeepsLimits t where
  queue := fun q => by rw [frame]; exact ⟨q.occupancy, q.distinct⟩
  period := fun p => ⟨period p, by rw [frame]; exact p.hspan⟩
  spans := fun k => by rw [frame]; exact ⟨k.waiting, k.keying⟩

/-- A fold of steps that keep the limits keeps them. -/
theorem foldl {α : Type} (f : State → α → State) (each : ∀ (s : State) (a : α), s.KeepsLimits (f s a)) (s : State)
    (l : List α) : s.KeepsLimits (l.foldl f s) := by
  induction l generalizing s with
  | nil => exact refl s
  | cons a rest ih => exact (each s a).trans (ih (f s a))

end State.KeepsLimits

/-! ### The period (02 R20, R23, R29) -/

theorem clampPeriod_range (p : Int) : 393216 ≤ clampPeriod p ∧ clampPeriod p ≤ 655359 := by
  unfold clampPeriod
  omega

/-- HSPAN × 256 is a P in range (02 R31, R32, 10 R167). -/
theorem State.PeriodWithinRange.of_hspan {s : State} (p : s.PeriodWithinRange) :
    393216 ≤ s.settings.hspan * 256 ∧ s.settings.hspan * 256 ≤ 655359 := by
  have := p.hspan
  omega

theorem LineLock.searchEdge_period (l : LineLock) (t : Timestamp) (range : 393216 ≤ l.period ∧ l.period ≤ 655359) :
    393216 ≤ (l.searchEdge t).period ∧ (l.searchEdge t).period ≤ 655359 := by
  unfold LineLock.searchEdge
  dsimp only
  split
  · rename_i eight
    exact acquired_period_range (trimmed_passes _) eight
  · exact range

theorem State.handClass_keepsLimits (s : State) (c : PulseClass) (t : Timestamp) :
    s.KeepsLimits (s.handClass c t) := by
  by_cases hs : c = .hs
  · rw [hs, State.handClass_hs]
    refine .of_lle rfl fun p => ?_
    dsimp only
    split
    · exact s.lle.searchEdge_period t p.period
    · exact p.period
  · rw [State.handClass_not_hs s t hs]
    refine .of_lle rfl fun p => ?_
    dsimp only
    split <;> exact p.period

theorem State.trackedEdge_period (s : State) (t : Timestamp) (e : Int) (p : s.PeriodWithinRange) :
    393216 ≤ (s.trackedEdge t e).lle.period ∧ (s.trackedEdge t e).lle.period ≤ 655359 := by
  unfold State.trackedEdge
  dsimp only
  split
  · exact clampPeriod_range _
  · split
    · exact clampPeriod_range _
    · exact p.period

theorem State.acquiringEdge_period (s : State) (e : Int) :
    393216 ≤ (s.acquiringEdge e).lle.period ∧ (s.acquiringEdge e).lle.period ≤ 655359 := by
  unfold State.acquiringEdge
  dsimp only
  split
  · split <;> exact clampPeriod_range _
  · exact clampPeriod_range _

theorem State.acceptEdge_keepsLimits (s : State) (t : Timestamp) : s.KeepsLimits (s.acceptEdge t) := by
  refine .of_lle (s.acceptEdge_frame t) fun p => ?_
  cases lock : s.lle.lock <;> simp only [State.acceptEdge, lock]
  case acquiring => exact State.acquiringEdge_period _ _
  case locked => exact State.trackedEdge_period _ _ _ ⟨p.period, p.hspan⟩
  case flywheel => exact State.trackedEdge_period _ _ _ ⟨p.period, p.hspan⟩
  case freeRun => exact p.period
  case standby => exact p.period

theorem State.qualify_keepsLimits (s : State) : s.KeepsLimits s.qualify := by
  have judged : s.KeepsLimits s.qualified := .of_frame (.refl _) rfl rfl rfl rfl
  rw [State.qualify_eq]
  refine judged.trans ?_
  unfold State.offerCandidate
  split
  · exact s.qualified.acceptEdge_keepsLimits _
  · exact .refl _

theorem State.classify_keepsLimits (s : State) (c : PulseClass) (next : PulseState) :
    s.KeepsLimits (s.classify c next) :=
  (s.handClass_keepsLimits c s.sq.leading).trans (.of_frame (.refl _) rfl rfl rfl rfl)

theorem State.endPulse_keepsLimits (s : State) : s.KeepsLimits s.endPulse := by
  unfold State.endPulse
  split
  case h_3 =>
    split
    · exact .of_frame (.refl _) rfl rfl rfl rfl
    · exact s.qualify_keepsLimits.trans (s.qualify.classify_keepsLimits _ _)
  case h_4 => exact s.classify_keepsLimits _ _
  all_goals exact .of_frame (.refl _) rfl rfl rfl rfl

theorem State.missingLine_keepsLimits (s : State) : s.KeepsLimits s.missingLine := by
  unfold State.missingLine
  dsimp only
  split
  case h_3 => split <;> exact .of_frame (.refl _) rfl rfl rfl rfl
  all_goals exact .of_frame (.refl _) rfl rfl rfl rfl

/-! ### The spans (08 R138, R141) -/

/-- At a CHS the waiting list becomes the keying one, and none waits. -/
theorem SpanKeyer.takeWaiting_within (k : SpanKeyer)
    (waiting : ∀ spans, k.waiting = some spans → spans.length ≤ 8)
    (keying : k.keying.length ≤ 8) : k.takeWaiting.waiting = none ∧ k.takeWaiting.keying.length ≤ 8 := by
  rw [SpanKeyer.takeWaiting_eq]
  cases isWaiting : k.waiting with
  | none => exact ⟨rfl, keying⟩
  | some spans => exact ⟨rfl, waiting spans isWaiting⟩

theorem State.emitChs_keepsLimits (s : State) (line vdelay : Nat) : s.KeepsLimits (s.emitChs line vdelay) := by
  unfold State.emitChs
  refine .of_spans (.refl _) rfl rfl fun k => ?_
  obtain ⟨none, few⟩ := s.sbk.takeWaiting_within k.waiting k.keying
  exact ⟨fun _ isSome => absurd (none.symm.trans isSome) (by simp), few⟩

theorem State.spans_length (s : State) (p : Parity) (y : Nat) : (s.spans p y).length ≤ 8 := by
  rw [State.spans, List.length_map]
  exact List.length_take_le 8 _

theorem State.buildSpans_keepsLimits (s : State) : s.KeepsLimits s.buildSpans := by
  obtain ⟨-, lle, -, -, settings, -, -, aq, -, -, -, -, waiting⟩ := s.buildSpans_blocks
  have keying : s.buildSpans.sbk.keying = s.sbk.keying := by unfold State.buildSpans; dsimp only; split <;> rfl
  refine .of_spans (by rw [aq]) (by rw [lle]) (by rw [settings]) fun k => ⟨fun spans built => ?_, keying ▸ k.keying⟩
  rw [waiting, Option.some.injEq] at built
  exact built ▸ s.spans_length _ _

/-! ### The queue (07 R121, R126, R127) -/

theorem State.notifyAll_aq (s : State) (h : Nat) (ns : List Notice) : (s.notifyAll h ns).aq = s.aq := by
  rw [State.notifyAll_eq]

theorem State.settleTitle_keepsLimits (s : State) (h : Nat) (r : Title × List Notice) :
    s.KeepsLimits (s.settleTitle h r) := by
  refine .of_core (s.settleTitle_core h r) ?_
  unfold State.settleTitle
  dsimp only
  split
  · simp only [State.freeRecord, State.setTitle_aq, State.notifyAll_aq]
    exact List.filter_sublist
  · rw [State.notifyAll_aq, State.setTitle_aq]

theorem State.fieldStep_keepsLimits (s : State) : s.KeepsLimits s.fieldStep := by
  unfold State.fieldStep
  refine .foldl _ (fun s h => ?_) s _
  split
  · exact .refl s
  · exact s.settleTitle_keepsLimits h _

theorem State.cutTitles_keepsLimits (s : State) : s.KeepsLimits s.cutTitles := by
  unfold State.cutTitles
  refine .foldl _ (fun s h => ?_) s _
  split
  · exact .refl s
  · split
    · exact s.settleTitle_keepsLimits h _
    · exact .refl s

theorem State.commit_entries (s : State) : s.commit.aq.entries.Sublist s.aq.entries := by
  by_cases idle : s.aq.held = true ∨ s.aq.entries = []
  · rw [State.commit_of_idle idle]
  · rw [State.commit_of_waiting idle]
    dsimp only
    split <;> exact List.nil_sublist _

theorem State.cueSample_aq (s : State) (n : Fin 4) (level : Level) : (s.cueSample n level).aq = s.aq := by
  unfold State.cueSample
  dsimp only
  split
  · split <;> rfl
  · rfl

theorem State.cueWork_aq (s : State) : s.cueWork.aq = s.aq := by
  simp only [State.cueWork, State.cueSample_aq]

theorem State.cueWork_keepsLimits (s : State) : s.KeepsLimits s.cueWork :=
  .of_core s.cueWork_core (by rw [State.cueWork_aq])

theorem State.stepAndCues_keepsLimits (s : State) (fieldStep cueFirst : Bool) :
    s.KeepsLimits (s.stepAndCues fieldStep cueFirst) := by
  unfold State.stepAndCues
  split
  · exact s.cueWork_keepsLimits
  · split
    · exact s.cueWork_keepsLimits.trans (State.fieldStep_keepsLimits _)
    · exact s.fieldStep_keepsLimits.trans (State.cueWork_keepsLimits _)

theorem State.committedLine_keepsLimits (s : State) (cues : CueLevels) : s.KeepsLimits (s.committedLine cues) := by
  have decided : s.KeepsLimits (s.atLineStart cues).decideVertical.1 := by
    have d := s.lineStart_decision cues
    exact .of_frame (by rw [d.frame]; rfl) (by rw [d.lle]; rfl) (by rw [d.frame]; rfl) (by rw [d.frame]; rfl)
      (by rw [d.frame]; rfl)
  refine decided.trans ?_
  unfold State.committedLine
  dsimp only
  split
  · exact .of_core (State.commit_core _) (State.commit_entries _)
  · exact .refl _

theorem State.settledLine_keepsLimits (s : State) (cues : CueLevels) : s.KeepsLimits (s.settledLine cues) := by
  have emitted : s.KeepsLimits ((s.committedLine cues).emitAwaited s.lle.y s.stg.vdelay) := by
    refine (s.committedLine_keepsLimits cues).trans ?_
    unfold State.emitAwaited
    split
    · exact State.emitChs_keepsLimits _ _ _
    · exact .refl _
  rw [State.settledLine_eq]
  dsimp only
  split
  · exact emitted.trans (.of_frame (.refl _) rfl rfl rfl rfl)
  · exact emitted

theorem State.lineStart_keepsLimits (s : State) (cues : CueLevels) (cueFirst : Bool) :
    s.KeepsLimits (s.lineStart cues cueFirst) := by
  have begun : s.KeepsLimits (s.settledLine cues).beginLine :=
    (s.settledLine_keepsLimits cues).trans (by rw [State.beginLine_frame]; exact .of_frame (.refl _) rfl rfl rfl rfl)
  rw [State.lineStart_eq]
  exact (begun.trans (State.buildSpans_keepsLimits _)).trans (State.stepAndCues_keepsLimits _ _ _)

/-- Staging keeps the queue within its limits: a replaced entry keeps its handle and item, and an appended one finds
room and none of its own (07 R126). -/
theorem State.QueueWithinLimits.stage {s : State} (q : s.QueueWithinLimits) {n : Entry} {r : AmendmentQueue}
    (staged : s.aq.stage n = some r) : State.QueueWithinLimits { s with aq := r } := by
  obtain ⟨-, rfl⟩ | ⟨free, room, rfl⟩ := AmendmentQueue.stage_cases staged
  · refine ⟨by simpa using q.occupancy, List.pairwise_map.mpr (q.distinct.imp fun {a b} ne => ?_)⟩
    rw [(replaceEntry_key n a).1, (replaceEntry_key n a).2, (replaceEntry_key n b).1, (replaceEntry_key n b).2]
    exact ne
  · refine ⟨by simpa using room, List.pairwise_append.mpr ⟨q.distinct, List.pairwise_singleton _ _, ?_⟩⟩
    intro a member b isNew same
    obtain rfl := List.mem_singleton.mp isNew
    have held : s.aq.holds b.handle b.item = true :=
      List.any_eq_true.mpr ⟨a, member, by simp [same.1, same.2]⟩
    rw [held] at free
    cases free

theorem State.stageEntry_keepsLimits (s : State) (given : Nat) (e : Entry) (param : Nat) :
    s.KeepsLimits (s.stageEntry given e param).1 := by
  unfold State.stageEntry
  split
  · exact .refl s
  · rename_i staged
    exact ⟨fun q => q.stage staged, fun p => ⟨p.period, p.hspan⟩, fun k => ⟨k.waiting, k.keying⟩⟩

/-! ### The commands of the host -/

theorem State.onTitle_keepsLimits {s : State} {h : Nat} {body : Title → Performed}
    (work : ∀ t, s.KeepsLimits (body t).1) : s.KeepsLimits (s.onTitle h body).1 := by
  unfold State.onTitle
  split
  · exact .refl s
  · exact work _

theorem State.sequence_keepsLimits (s : State) (h : Nat) (work : Title → Option TitleWork) :
    s.KeepsLimits (s.sequence h work).1 := by
  refine State.onTitle_keepsLimits fun t => ?_
  split
  · exact .refl s
  · exact s.settleTitle_keepsLimits _ _

theorem State.freeAndForget_keepsLimits (s : State) (h : Nat) : s.KeepsLimits (s.freeAndForget h) := by
  refine .of_frame ?_ (by simp) (by simp) (by simp) (by simp)
  simp only [State.freeAndForget, State.clearNotices_aq, State.freeRecord, State.setTitle_aq]
  exact List.filter_sublist

theorem doCreateTitle_keepsLimits (ps : List Byte) (s : State) : s.KeepsLimits (doCreateTitle ps s).1 := by
  have created (h : Nat) (t : Title) : s.KeepsLimits ((s.setTitle h (some t)).clearNotices h) :=
    .of_frame (by simp) (by simp) (by simp) (by simp) (by simp)
  unfold doCreateTitle
  split
  · exact .refl s
  · split
    · exact .refl s
    · dsimp only
      split <;> exact created _ _

theorem doAmendTitle_keepsLimits (ps : List Byte) (s : State) : s.KeepsLimits (doAmendTitle ps s).1 := by
  unfold doAmendTitle
  dsimp only
  split
  · exact .refl s
  · refine State.onTitle_keepsLimits fun t => ?_
    split
    · exact .refl s
    · split
      · exact .refl s
      · exact s.stageEntry_keepsLimits _ _ _

theorem doListTitles_keepsLimits (ps : List Byte) (s : State) : s.KeepsLimits (doListTitles ps s).1 := by
  unfold doListTitles
  split <;> exact .refl s

theorem doHitTest_keepsLimits (ps : List Byte) (s : State) : s.KeepsLimits (doHitTest ps s).1 := by
  unfold doHitTest
  split <;> exact .refl s

theorem doRetireTitle_keepsLimits (ps : List Byte) (s : State) : s.KeepsLimits (doRetireTitle ps s).1 := by
  unfold doRetireTitle
  split
  · exact State.onTitle_keepsLimits fun _ => s.freeAndForget_keepsLimits _
  · refine State.onTitle_keepsLimits fun t => ?_
    split
    · exact s.freeAndForget_keepsLimits _
    · exact s.settleTitle_keepsLimits _ _
  · exact .refl s

theorem doResetTitles_keepsLimits (s : State) : s.KeepsLimits (doResetTitles s).1 :=
  .of_frame (List.nil_sublist _) rfl rfl rfl rfl

theorem doHalt_keepsLimits (ps : List Byte) (s : State) : s.KeepsLimits (doHalt ps s).1 := by
  unfold doHalt
  split
  · exact s.sequence_keepsLimits _ _
  · exact s.sequence_keepsLimits _ _
  · exact .refl s

theorem doCutAll_keepsLimits (s : State) : s.KeepsLimits (doCutAll s).1 := by
  dsimp only [doCutAll]
  exact s.cutTitles_keepsLimits

theorem doSetTiming_keepsLimits (ps : List Byte) (s : State) : s.KeepsLimits (doSetTiming ps s).1 := by
  unfold doSetTiming
  dsimp only
  split
  · exact .refl s
  · exact s.stageEntry_keepsLimits _ _ _

theorem doDiscardPending_keepsLimits (ps : List Byte) (s : State) : s.KeepsLimits (doDiscardPending ps s).1 := by
  unfold doDiscardPending
  dsimp only
  split
  · exact .refl s
  · exact .of_frame List.filter_sublist rfl rfl rfl rfl

theorem State.writeStandard_keepsLimits (s : State) (v : StandardSetting) : s.KeepsLimits (s.writeStandard v) := by
  unfold State.writeStandard
  split <;> exact .of_frame (.refl _) rfl rfl rfl rfl

/-- The value that SET MODE gives HSPAN is in its range (10, table of settings). -/
theorem settingValue_hspan (value : Nat) : 1536 ≤ settingValue 5 value ∧ settingValue 5 value ≤ 2559 := by
  have numeric : settingValue 5 value = max 1536 (min value 2559) := rfl
  omega

theorem State.writeSetting_keepsLimits (s : State) (item value : Nat) :
    s.KeepsLimits (s.writeSetting item (settingValue item value)) := by
  unfold State.writeSetting
  dsimp only
  split
  case h_1 =>
    split
    · exact .refl s
    · exact s.writeStandard_keepsLimits _
  case h_2 => split <;> exact .of_frame (.refl _) rfl rfl rfl rfl
  case h_5 =>
    have range := settingValue_hspan value
    split
    · exact .refl s
    · exact ⟨fun q => ⟨q.occupancy, q.distinct⟩, fun _ => ⟨⟨by dsimp only; omega, by dsimp only; omega⟩, range⟩,
        fun k => ⟨k.waiting, k.keying⟩⟩
  all_goals exact .of_frame (.refl _) rfl rfl rfl rfl

theorem doSetMode_keepsLimits (ps : List Byte) (s : State) : s.KeepsLimits (doSetMode ps s).1 := by
  unfold doSetMode
  dsimp only
  split
  · exact .refl s
  · split
    · exact .refl s
    · split
      · exact .refl s
      · exact s.writeSetting_keepsLimits _ _

theorem doReportMode_keepsLimits (ps : List Byte) (s : State) : s.KeepsLimits (doReportMode ps s).1 := by
  unfold doReportMode
  dsimp only
  split <;> exact .refl s

theorem doSetEvents_keepsLimits (ps : List Byte) (s : State) : s.KeepsLimits (doSetEvents ps s).1 := by
  unfold doSetEvents
  dsimp only
  split <;> exact .of_frame (.refl _) rfl rfl rfl rfl

theorem doEnterStandby_keepsLimits (s : State) : s.KeepsLimits (doEnterStandby s).1 := by
  unfold doEnterStandby
  split
  · exact .refl s
  · refine .of_lle rfl fun p => ?_
    unfold State.standbyEntered
    dsimp only
    split <;> exact p.of_hspan

theorem doLeaveStandby_keepsLimits (s : State) : s.KeepsLimits (doLeaveStandby s).1 := by
  unfold doLeaveStandby
  split
  · exact .of_lle rfl fun p => p.of_hspan
  · exact .refl s

theorem doSetCueLine_keepsLimits (ps : List Byte) (s : State) : s.KeepsLimits (doSetCueLine ps s).1 := by
  unfold doSetCueLine
  split
  · exact .refl s
  · split
    · exact .of_frame (.refl _) rfl rfl rfl rfl
    · exact State.onTitle_keepsLimits fun _ => .of_frame (.refl _) rfl rfl rfl rfl
    · exact .refl s

theorem performWith_keepsLimits (code : Byte) {body : State → Performed} {s : State}
    (work : s.KeepsLimits (body s).1) : s.KeepsLimits (performWith code body s) := by
  unfold performWith
  split
  · exact .of_frame (.refl _) rfl rfl rfl rfl
  · exact work.trans (.of_frame (.refl _) rfl rfl rfl rfl)

theorem State.reportLock_keepsLimits (s : State) : s.KeepsLimits s.reportLock := by
  refine .of_frame (.refl _) ?_ rfl rfl rfl
  unfold State.reportLock
  dsimp only
  split <;> rfl

/-- No performed command leaves the limits. -/
theorem perform_keepsLimits (c : Command) (ps : List Byte) (s : State) : s.KeepsLimits (perform c ps s) := by
  cases c with
  | createTitle => exact performWith_keepsLimits _ (doCreateTitle_keepsLimits ps s)
  | amendTitle => exact performWith_keepsLimits _ (doAmendTitle_keepsLimits ps s)
  | queryTitle => exact performWith_keepsLimits _ (State.onTitle_keepsLimits fun _ => .refl s)
  | listTitles => exact performWith_keepsLimits _ (doListTitles_keepsLimits ps s)
  | hitTest => exact performWith_keepsLimits _ (doHitTest_keepsLimits ps s)
  | retireTitle => exact performWith_keepsLimits _ (doRetireTitle_keepsLimits ps s)
  | resetTitles => exact performWith_keepsLimits _ (doResetTitles_keepsLimits s)
  | halt => exact performWith_keepsLimits _ (doHalt_keepsLimits ps s)
  | arm | disarm | start | leave | resume | rearm =>
    exact performWith_keepsLimits (body := fun s => s.sequence _ _) _ (s.sequence_keepsLimits _ _)
  | cutAll => exact performWith_keepsLimits _ (doCutAll_keepsLimits s)
  | setTiming => exact performWith_keepsLimits _ (doSetTiming_keepsLimits ps s)
  | discardPending => exact performWith_keepsLimits _ (doDiscardPending_keepsLimits ps s)
  | setMode => exact performWith_keepsLimits _ (doSetMode_keepsLimits ps s)
  | reportMode => exact performWith_keepsLimits _ (doReportMode_keepsLimits ps s)
  | setEvents => exact performWith_keepsLimits _ (doSetEvents_keepsLimits ps s)
  | enterStandby => exact performWith_keepsLimits _ (doEnterStandby_keepsLimits s)
  | leaveStandby => exact performWith_keepsLimits _ (doLeaveStandby_keepsLimits s)
  | setCueLine => exact performWith_keepsLimits _ (doSetCueLine_keepsLimits ps s)
  | holdAmendments | applyAmendments =>
    exact performWith_keepsLimits (body := fun s => s.setHeld _) _ (.of_frame (.refl _) rfl rfl rfl rfl)
  | queryPending => exact performWith_keepsLimits (body := doQueryPending) _ (.refl s)
  | reportCueLines => exact performWith_keepsLimits (body := doReportCueLines) _ (.refl s)
  | readEvents => exact performWith_keepsLimits (body := doReadEvents) _ (.of_frame (.refl _) rfl rfl rfl rfl)
  | readNotices => exact performWith_keepsLimits (body := doReadNotices) _ (.of_frame (.refl _) rfl rfl rfl rfl)
  | reportCondition => exact .of_frame (.refl _) rfl rfl rfl rfl
  | reportLock =>
    unfold perform
    dsimp only
    split
    · exact .of_frame (.refl _) rfl rfl rfl rfl
    · exact s.reportLock_keepsLimits

/-! ### Every step -/

theorem State.Access.keepsLimits {s t : State} (access : s.Access t) : s.KeepsLimits t := by
  rw [access.frame]
  exact .of_frame (.refl _) rfl rfl rfl rfl

theorem State.restarted_keepsLimits (s : State) (csync : Level) (entries : List Colour) (attention : Attention) :
    s.KeepsLimits (s.restarted csync entries attention) where
  queue := fun _ => ⟨Nat.zero_le _, .nil⟩
  period := fun _ => ⟨show 393216 ≤ 524288 ∧ 524288 ≤ 655359 by omega, show 1536 ≤ 2048 ∧ 2048 ≤ 2559 by omega⟩
  spans := fun _ => ⟨fun spans isSome => absurd (show none = some spans from isSome) (by simp), Nat.zero_le _⟩

theorem State.Row.keepsLimits {s t : State} (row : s.Row t) : s.KeepsLimits t := by
  cases row with
  | powerOn | pinReset => exact s.restarted_keepsLimits _ _ _
  | endPulse => exact s.endPulse_keepsLimits.trans (.of_frame (.refl _) rfl rfl rfl rfl)
  | qualify => exact s.qualify_keepsLimits
  | overlong => exact s.classify_keepsLimits _ _
  | missingLine => exact s.missingLine_keepsLimits
  | lineStart due cues cueFirst => exact s.lineStart_keepsLimits cues cueFirst
  | emitChs => exact s.emitChs_keepsLimits _ _
  | access access => exact access.keepsLimits
  | perform access c ps => exact access.keepsLimits.trans (perform_keepsLimits c ps _)
  | refuseUnknown access code =>
    exact access.keepsLimits.trans (performWith_keepsLimits code (.refl _))
  | pinResetStart | csyncDuringReset | beginPulse | runExpiry | gateOpen | freeLine | takeSample | chsPulseEnd =>
    exact .of_frame (.refl _) rfl rfl rfl rfl

theorem State.driveSample_keepsLimits (s : State) : s.KeepsLimits s.driveSample := by
  unfold State.driveSample
  split <;> exact .of_frame (.refl _) rfl rfl rfl rfl

theorem State.tick_keepsLimits (s : State) : s.KeepsLimits s.tick := by
  have counted : s.KeepsLimits { s with sq := { s.sq with counter := s.sq.counter + 1 } } :=
    .of_frame (.refl _) rfl rfl rfl rfl
  unfold State.tick
  dsimp only
  split
  · exact counted
  · exact (counted.trans (State.driveSample_keepsLimits _)).trans (.of_frame (.refl _) rfl rfl rfl rfl)

theorem step_keepsLimits {s t : State} (run : step s = .next t) : s.KeepsLimits t := by
  obtain ⟨queue, index, row⟩ | rfl := step_cases run
  · have moved : s.KeepsLimits { s with pending := queue, freeIndex := index } := .of_frame (.refl _) rfl rfl rfl rfl
    exact moved.trans row.keepsLimits
  · exact s.tick_keepsLimits

/-- Settles O58: the three limits, kept by every row and by every cc. -/
theorem everyStepKeepsTheQueueThePeriodAndTheSpans : Obligations.EveryStepKeepsTheQueueThePeriodAndTheSpans :=
  fun _ _ run =>
    have keeps := step_keepsLimits run
    ⟨keeps.queue, keeps.period, keeps.spans⟩

end Sys2Proof.Machine
end

section
/-! ## Line timing: the search, the loop update, accepted edges and lines without one (02 R20 to R30) -/

namespace Sys2Proof.Machine

open Sys2Proof

/-! ### The search (02 R28, R29) -/

/-- A set that is left short of 8 edges waits for more. -/
theorem LineLock.searchEdge_short (l : LineLock) (t : Timestamp) (short : (trimmed (l.edgeSet ++ [t])).length ≠ 8) :
    l.searchEdge t = { l with edgeSet := trimmed (l.edgeSet ++ [t]) } := by
  rw [LineLock.searchEdge, if_neg short]

theorem LineLock.searchEdge_full (l : LineLock) (t : Timestamp) (full : (trimmed (l.edgeSet ++ [t])).length = 8) :
    l.searchEdge t = l.acquire (trimmed (l.edgeSet ++ [t])) t := by
  rw [LineLock.searchEdge, if_pos full]

theorem State.searches_iff (s : State) : s.searches = true ↔ s.lle.lock = .freeRun ∧ s.settings.reference = .lock :=
  decide_eq_true_iff

/-- Settles O12, by the class of the width, and for HS by the size of the trimmed set. -/
theorem searchTakesHsClasses : Obligations.SearchTakesHsClasses := by
  intro s t low up p free lock run width set
  have search : s.searches = true := s.searches_iff.mpr ⟨free, lock⟩
  rw [exec_csyncRisingEdge_of_qualified low up p] at run
  obtain rfl := Host.Outcome.next.inj run
  have hs (bottom : 112 ≤ width) (top : width ≤ 399) :
      (s.classify (classOfWidth width) .idle).lle = s.lle.searchEdge s.sq.leading := by
    rw [classOfWidth_hs bottom top, State.classify_hs, search, if_pos rfl]
  refine ⟨fun bottom top short => ?_, fun bottom top full => ?_, fun out => ?_⟩
  · exact (hs bottom top).trans (s.lle.searchEdge_short _ short)
  · exact (hs bottom top).trans (s.lle.searchEdge_full _ full)
  · have other : classOfWidth width ≠ .hs := by
      unfold classOfWidth
      split
      · simp
      · rw [if_neg (by omega)]; split <;> simp
    change (s.classify (classOfWidth width) .idle).lle = _
    rw [State.classify_not_hs s _ other, search, if_pos rfl]

/-! ### The loop update (02 R23) -/

theorem clampPeriod_eq (p : Int) : (clampPeriod p : Int) = max 393216 (min 655359 p) := by
  unfold clampPeriod
  omega

/-- Division by a power of two rounds toward minus infinity. -/
theorem ediv_two_pow_eq_fdiv (e : Int) (k : Nat) : e / 2 ^ k = Int.fdiv e (2 ^ k) :=
  (Int.fdiv_eq_ediv_of_nonneg e (Int.pow_nonneg (by decide))).symm

/-- Settles O13: the update as written, its quotients read as rounded toward minus infinity. -/
theorem loopUpdateCorrectsPhaseAndPeriod : Obligations.LoopUpdateCorrectsPhaseAndPeriod := by
  intro l e kp kf _ _
  simp only [LineLock.loopUpdate, ediv_two_pow_eq_fdiv, lineStartReading, clampPeriod_eq, and_self]

/-! ### An accepted edge (02 R25, R26, R30) -/

/-- A qualification that is due, of a pulse whose candidate the open gate takes (02 R22). -/
theorem exec_qualificationExpiry_taken {s : State} (due : s.qualificationDue = true)
    (gated : s.lle.lock.gated = true) (opened : s.lle.gateOpen = true)
    (near : (signedGap (fine s.sq.leading) s.lle.edge).natAbs ≤ 256 * s.gateWidth) :
    exec .qualificationExpiry s = .next (s.qualified.acceptEdge s.sq.leading) := by
  rw [exec_qualificationExpiry, due, whenDue_true, State.qualify_taken gated opened near]

/-- The gate shuts as it takes an edge (02 R22). -/
def State.shutGate (s : State) : State :=
  { s with lle := { s.lle with gateOpen := false } }

theorem State.acceptEdge_locked {s : State} (lock : s.lle.lock = .locked) (t : Timestamp) :
    s.acceptEdge t = s.shutGate.trackedEdge t (signedGap (fine t) s.lle.edge) := by
  simp only [State.acceptEdge, State.shutGate, lock]

theorem State.acceptEdge_acquiring {s : State} (lock : s.lle.lock = .acquiring) (t : Timestamp) :
    s.acceptEdge t = s.shutGate.acquiringEdge (signedGap (fine t) s.lle.edge) := by
  simp only [State.acceptEdge, State.shutGate, lock]

/-- FLYWHEEL takes an edge as LOCKED with hold count 0 does (02 R26). -/
theorem State.acceptEdge_flywheel {s : State} (lock : s.lle.lock = .flywheel) (t : Timestamp) :
    s.acceptEdge t =
      State.acceptEdge { s with lle := { s.lle with lock := .locked, holdCount := 0 } } t := by
  simp only [State.acceptEdge, lock]

theorem State.trackedEdge_good {s : State} {e : Int} (good : e.natAbs ≤ 256 * s.settings.window) (t : Timestamp) :
    s.trackedEdge t e =
      { s with lle :=
        { s.lle.loopUpdate e s.settings.kp s.settings.kf with missCount := s.lle.missCount - 1 } } := by
  rw [State.trackedEdge, if_pos good]

theorem State.trackedEdge_missed {s : State} {e : Int} (far : 256 * s.settings.window < e.natAbs)
    (room : s.lle.missCount + 1 < s.settings.slipLimit) (t : Timestamp) :
    s.trackedEdge t e =
      { s with lle :=
        { s.lle.loopUpdate e s.settings.kp s.settings.kf with missCount := s.lle.missCount + 1 } } := by
  rw [State.trackedEdge, if_neg (Nat.not_le.mpr far), if_pos room]

theorem State.trackedEdge_slip {s : State} {e : Int} (far : 256 * s.settings.window < e.natAbs)
    (full : s.settings.slipLimit ≤ s.lle.missCount + 1) (t : Timestamp) :
    s.trackedEdge t e = State.raise { s with lle := s.lle.slipped t e } .slip := by
  rw [State.trackedEdge, if_neg (Nat.not_le.mpr far), if_neg (Nat.not_lt.mpr full)]

/-- Settles O14: FLYWHEEL by LOCKED, and in LOCKED the three outcomes of an edge. -/
theorem trackedEdgeIsGoodMissedOrASlip : Obligations.TrackedEdgeIsGoodMissedOrASlip := by
  intro s due opened near
  refine ⟨fun flywheel => ?_, fun locked => ?_⟩
  · have gated : s.lle.lock.gated = true := by rw [flywheel]; rfl
    have dueLocked :
        State.qualificationDue { s with lle := { s.lle with lock := .locked, holdCount := 0 } } = true := due
    rw [exec_qualificationExpiry_taken due gated opened near,
      exec_qualificationExpiry_taken dueLocked rfl opened near, State.acceptEdge_flywheel (s := s.qualified) flywheel]
    have judged : s.judge s.sq.leading =
        State.judge { s with lle := { s.lle with lock := .locked, holdCount := 0 } } s.sq.leading := by
      rw [State.judge, State.judge, gated]; rfl
    simp only [State.qualified, judged]
  · intro e shut sq
    have gated : s.lle.lock.gated = true := by rw [locked]; rfl
    rw [exec_qualificationExpiry_taken due gated opened near, State.acceptEdge_locked (s := s.qualified) locked]
    refine ⟨fun good => ?_, fun far room => ?_, fun far full => ?_⟩
    · exact congrArg Host.Outcome.next (State.trackedEdge_good (s := s.qualified.shutGate) good _)
    · exact congrArg Host.Outcome.next (State.trackedEdge_missed (s := s.qualified.shutGate) far room _)
    · exact congrArg Host.Outcome.next (State.trackedEdge_slip (s := s.qualified.shutGate) far full _)

theorem State.acquiringEdge_far {s : State} {e : Int} (far : 256 * s.settings.window < e.natAbs) :
    s.acquiringEdge e =
      { s with lle := { s.lle.loopUpdate e 1 (acquiringShift s.settings.kf) with goodCount := 0 } } := by
  rw [State.acquiringEdge, if_neg (Nat.not_le.mpr far)]

theorem State.acquiringEdge_good {s : State} {e : Int} (good : e.natAbs ≤ 256 * s.settings.window)
    (few : s.lle.goodCount < 15) :
    s.acquiringEdge e =
      { s with lle :=
        { s.lle.loopUpdate e 1 (acquiringShift s.settings.kf) with goodCount := s.lle.goodCount + 1 } } := by
  simp only [State.acquiringEdge, if_pos good]
  exact if_pos (show s.lle.goodCount + 1 < 16 by omega)

theorem State.acquiringEdge_sixteenth {s : State} {e : Int} (good : e.natAbs ≤ 256 * s.settings.window)
    (many : 15 ≤ s.lle.goodCount) :
    s.acquiringEdge e =
      State.raise
        { s with lle :=
          { s.lle.loopUpdate e 1 (acquiringShift s.settings.kf) with
            lock := .locked, missCount := 0, goodCount := 0 } } .lockGained := by
  simp only [State.acquiringEdge, if_pos good]
  exact if_neg (show ¬s.lle.goodCount + 1 < 16 by omega)

/-- Settles O15: the line is good or not, and the good count at 15 or short of it. -/
theorem acquiringEdgeCountsGoodLines : Obligations.AcquiringEdgeCountsGoodLines := by
  intro s due acquiring opened near e updated sq
  have gated : s.lle.lock.gated = true := by rw [acquiring]; rfl
  rw [exec_qualificationExpiry_taken due gated opened near, State.acceptEdge_acquiring (s := s.qualified) acquiring]
  refine ⟨fun far => ?_, fun good few => ?_, fun good many => ?_⟩
  · exact congrArg Host.Outcome.next (State.acquiringEdge_far (s := s.qualified.shutGate) far)
  · exact congrArg Host.Outcome.next (State.acquiringEdge_good (s := s.qualified.shutGate) good few)
  · exact congrArg Host.Outcome.next (State.acquiringEdge_sixteenth (s := s.qualified.shutGate) good many)

/-! ### A line without an edge (02 R22, R24, R26, R27, R30) -/

theorem State.missingLine_locked {s : State} (lock : s.lle.lock = .locked) :
    s.missingLine = { s with lle := { s.lle.missed.countFlywheel with lock := .flywheel, holdCount := 1 } } := by
  simp only [State.missingLine, show s.lle.missed.lock = .locked from lock]

theorem State.missingLine_flywheel {s : State} (lock : s.lle.lock = .flywheel)
    (held : s.lle.holdCount < s.settings.holdLimit) :
    s.missingLine = { s with lle := { s.lle.missed.countFlywheel with holdCount := s.lle.holdCount + 1 } } := by
  simp only [State.missingLine, show s.lle.missed.lock = .flywheel from lock]
  exact if_pos held

theorem State.missingLine_holdover {s : State} (lock : s.lle.lock = .flywheel)
    (out : s.settings.holdLimit ≤ s.lle.holdCount) :
    s.missingLine = State.raise { s with lle := s.lle.missed.countFlywheel.lost } .lockLost := by
  simp only [State.missingLine, show s.lle.missed.lock = .flywheel from lock]
  exact if_neg (Nat.not_lt.mpr out)

theorem State.missingLine_acquiring {s : State} (lock : s.lle.lock = .acquiring) :
    s.missingLine = State.raise { s with lle := s.lle.missed.lost } .lockLost := by
  simp only [State.missingLine, show s.lle.missed.lock = .acquiring from lock]

/-- Settles O16: the gate, the free line, and the missing line in each gated lock state. -/
theorem gateOpensAndLinesWithoutAnEdgeAreTimed : Obligations.GateOpensAndLinesWithoutAnEdgeAreTimed := by
  intro s
  refine ⟨fun due => ?_, fun due => ?_, fun due => ⟨fun locked => ?_, fun flywheel held => ?_, fun flywheel out => ?_,
    fun acquiring => ?_⟩⟩
  · rw [exec_gateOpen, due, whenDue_true]
  · rw [exec_freeLineDecision, due, whenDue_true]; rfl
  · rw [exec_gateDecisionExpiry, due, whenDue_true, State.missingLine_locked locked]; rfl
  · rw [exec_gateDecisionExpiry, due, whenDue_true, State.missingLine_flywheel flywheel held]; rfl
  · rw [exec_gateDecisionExpiry, due, whenDue_true, State.missingLine_holdover flywheel out]; rfl
  · rw [exec_gateDecisionExpiry, due, whenDue_true, State.missingLine_acquiring acquiring]; rfl

end Sys2Proof.Machine
end

section
/-! ## Standby (10 R163, R164, 02 R31, R32) -/

namespace Sys2Proof.Machine

open Sys2Proof

theorem exec_enterStandby {s : State} (w : s.Performs) :
    exec .enterStandby s = .next (finish 0x43 (doEnterStandby s.openCommand)) :=
  congrArg Host.Outcome.next (State.commandRow_performed w 0x43 doEnterStandby)

theorem exec_leaveStandby {s : State} (w : s.Performs) :
    exec .leaveStandby s = .next (finish 0x44 (doLeaveStandby s.openCommand)) :=
  congrArg Host.Outcome.next (State.commandRow_performed w 0x44 doLeaveStandby)

theorem doEnterStandby_of_standby {s : State} (standby : s.lle.lock = .standby) :
    doEnterStandby s = (s, Reply.check .wrongState 0 0 0) := by
  rw [doEnterStandby, if_pos standby, standby]; rfl

theorem doEnterStandby_of_other {s : State} (other : s.lle.lock ≠ .standby) :
    doEnterStandby s = (s.standbyEntered, Reply.good []) :=
  if_neg other

theorem doLeaveStandby_of_standby {s : State} (standby : s.lle.lock = .standby) :
    doLeaveStandby s = (s.standbyLeft, Reply.good []) :=
  if_pos standby

theorem doLeaveStandby_of_other {s : State} (other : s.lle.lock ≠ .standby) :
    doLeaveStandby s = (s, Reply.check .wrongState s.lle.lock.code 0 0) :=
  if_neg other

/-- The LLE as ENTER STANDBY leaves it before it decides a line (02 R31). -/
def State.standbyLock (s : State) : LineLock :=
  { s.lle with
    lock := .standby, period := s.settings.hspan * 256, missCount := 0, holdCount := 0, goodCount := 0
    gateOpen := false, gateEdge := none, edgeSet := [], lastError := none, realign := 0
    fieldLines := nominalLength s.sq.standard s.sq.parity }

/-- A line whose edge the counter has already reached is decided at the command (02 R24, log 19). -/
theorem State.standbyEntered_eq (s : State) :
    s.standbyEntered =
      { s with lle :=
        if reached s.sq.counter (wholePart s.lle.edge) then s.standbyLock.decideWithoutEdge else s.standbyLock } := rfl

theorem State.standbyEntered_of_ahead {s : State} (ahead : reached s.sq.counter (wholePart s.lle.edge) = false) :
    s.standbyEntered = { s with lle := s.standbyLock } := by
  rw [State.standbyEntered_eq, if_neg (by rw [ahead]; exact Bool.false_ne_true)]

theorem State.standbyEntered_of_reached {s : State} (behind : reached s.sq.counter (wholePart s.lle.edge) = true) :
    s.standbyEntered = { s with lle := s.standbyLock.decideWithoutEdge } := by
  rw [State.standbyEntered_eq, if_pos behind]

/-- Settles O54, by the lock state, and for ENTER STANDBY by whether the edge is reached. -/
theorem standbyIsEnteredAndLeft : Obligations.StandbyIsEnteredAndLeft := by
  intro s w
  refine ⟨fun standby => ⟨?_, ?_⟩, fun other => ⟨?_, fun ahead => ?_, fun behind => ?_⟩⟩
  · rw [exec_enterStandby w, doEnterStandby_of_standby (s := s.openCommand) standby, finish_openCommand]
  · rw [exec_leaveStandby w, doLeaveStandby_of_standby (s := s.openCommand) standby, finish_eq_answered _ _ _ rfl]
    rfl
  · rw [exec_leaveStandby w, doLeaveStandby_of_other (s := s.openCommand) other, finish_openCommand]
    rfl
  · rw [exec_enterStandby w, doEnterStandby_of_other (s := s.openCommand) other,
      State.standbyEntered_of_ahead (s := s.openCommand) ahead, finish_eq_answered _ _ _ rfl]
    rfl
  · rw [exec_enterStandby w, doEnterStandby_of_other (s := s.openCommand) other,
      State.standbyEntered_of_reached (s := s.openCommand) behind, finish_eq_answered _ _ _ rfl]
    rfl

end Sys2Proof.Machine
end

section
/-! ## Reports and codes (11 R175 to R184, 02 R42) -/

namespace Sys2Proof.Machine

open Sys2Proof

/-! ### Attention reasons and event sets (11, "Sets") -/

theorem Attention.code_eq (a : Attention) :
    a.code = (if a.powerOn then 1 else 0) + (if a.pinReset then 2 else 0) + (if a.standardChanged then 4 else 0) := by
  cases a with
  | mk powerOn pinReset standardChanged => cases powerOn <;> cases pinReset <;> cases standardChanged <;> rfl

theorem EventSet.getLsbD_with (e : EventSet) (k : EventKind) {j : Nat} (lt : j < 16) :
    (e.with k).getLsbD j = (e.getLsbD j || decide (j = k.bit)) := by
  simp [EventSet.with, lt]

theorem EventSet.getLsbD_without (e : EventSet) (k : EventKind) {j : Nat} (lt : j < 16) :
    (e.without k).getLsbD j = (e.getLsbD j && decide (j ≠ k.bit)) := by
  simp [EventSet.without, lt]

/-! ### REPORT CONDITION (11 R178) -/

/-- REPORT CONDITION is performed whatever attention is pending (11 R176). -/
theorem exec_reportCondition {s : State} (up : s.pins.resetLow = false) (col : s.Collects .reportCondition [])
    (n : Byte) : exec (.reportCondition n) s = .next (s.endCollection.reportCondition n.toNat) := by
  have collecting : s.cpr.collecting = some { command := .reportCondition, params := [] } := col
  change execReportCondition n s = _
  rw [execReportCondition, State.lastByte, if_neg (by rw [up]; exact Bool.false_ne_true), State.awaitsLast, collecting]
  rfl

/-! ### REPORT LOCK (02 R42) -/

theorem exec_reportLock {s : State} (w : s.Performs) : exec .reportLock s = .next s.openCommand.reportLock := by
  have quiet : s.openCommand.cpr.attention.any = false := w.2
  change execReportLock s = _
  rw [execReportLock, State.commandRow_up w.1, quiet]
  rfl

theorem LineLock.errorReported_eq (l : LineLock) : l.errorReported = l.lastError.getD 0 := by
  unfold LineLock.errorReported
  cases l.lastError <;> rfl

theorem byteOf_lockCode (l : LockState) :
    byteOf l.code =
      match l with
      | .standby => 0
      | .freeRun => 1
      | .acquiring => 2
      | .locked => 3
      | .flywheel => 4 := by
  cases l <;> rfl

theorem byteOf_standardCode (l : LineStandard) : byteOf l.code = if l = .s625 then 1 else 2 := by
  cases l <;> rfl

theorem byteOf_parityCode (p : Parity) : byteOf p.code = if p = .a then 0 else 1 := by
  cases p <;> rfl

theorem byteOf_boolCode_not (b : Bool) : byteOf (boolCode !b) = if b then 0 else 1 := by
  cases b <;> rfl

/-- The statistics are cleared by the first report of a run, and the run goes on (02 R42). -/
theorem State.reportLock_eq (s : State) :
    s.reportLock =
      { finish 0x61 (s, Reply.good s.lockBytes) with
        lle := if s.lle.reportRun then s.lle else { s.lle.clearStatistics with reportRun := true } } := by
  rw [State.reportLock]
  cases run : s.lle.reportRun with
  | false => rfl
  | true =>
    have same : { s.lle with reportRun := true } = s.lle := by rw [← run]
    simp only [if_true, same]
    rfl

/-! ### READ EVENTS and READ NOTICES (11 R183, R184) -/

theorem exec_readEvents {s : State} (w : s.Performs) :
    exec .readEvents s = .next (finish 0x62 (doReadEvents s.openCommand)) :=
  congrArg Host.Outcome.next (State.commandRow_performed w 0x62 doReadEvents)

theorem exec_readNotices {s : State} (w : s.Performs) :
    exec .readNotices s = .next (finish 0x63 (doReadNotices s.openCommand)) :=
  congrArg Host.Outcome.next (State.commandRow_performed w 0x63 doReadNotices)

/-- TITLE ACTIVITY is bit 7 of an event set (11, "Sets"). -/
theorem State.eventsLeft_eq (s : State) : s.eventsLeft = if s.noNotices then 0 else s.cpr.events &&& 0x80 := rfl

theorem State.noticed_eq (s : State) :
    s.noticed = (List.range' 1 24).filter fun h => decide (s.noticeSet h ≠ NoticeSet.empty) := by
  unfold State.noticed handles
  exact List.filter_congr fun h _ => (decide_not (p := s.noticeSet h = NoticeSet.empty)).symm

theorem State.clearAllNotices_eq (s : State) :
    s.clearAllNotices =
      { s with cpr := { s.cpr with
        notices := List.replicate s.cpr.notices.length NoticeSet.empty
        events := s.cpr.events.without .titleActivity } } := by
  rw [State.clearAllNotices, List.map_const']

/-- Settles O56: the codes case by case, and the four reports each over the opened command. -/
theorem reportsReadTheConditionLockEventsAndNotices : Obligations.ReportsReadTheConditionLockEventsAndNotices := by
  refine ⟨⟨rfl, rfl, rfl, rfl, rfl, rfl, rfl, rfl, rfl, rfl, rfl, rfl, rfl, rfl, rfl, rfl, rfl⟩,
    fun _ _ _ _ _ => ⟨rfl, rfl, rfl⟩, fun a b => ⟨a.code_eq, rfl⟩, fun e k => ?_, fun s => ⟨fun n up col => ?_,
    fun w => ?_, fun w => ?_, fun w => ?_⟩⟩
  · intro bit
    have same : k.bit = bit := by cases k <;> rfl
    rw [← same]
    exact ⟨rfl, fun j lt => ⟨e.getLsbD_with k lt, e.getLsbD_without k lt⟩⟩
  · rw [exec_reportCondition up col]
    rfl
  · intro l word triple lock bytes
    have written : s.openCommand.lockBytes = bytes := by
      rw [State.lockBytes, byteOf_lockCode, byteOf_standardCode, byteOf_parityCode, byteOf_boolCode_not,
        LineLock.errorReported_eq]
      rfl
    rw [exec_reportLock w, State.reportLock_eq, written, finish_openCommand]
    rfl
  · rw [exec_readEvents w, doReadEvents, State.eventsLeft_eq, finish_eq_answered _ _ _ rfl]
    rfl
  · rw [exec_readNotices w, doReadNotices, State.noticed_eq, State.clearAllNotices_eq, finish_eq_answered _ _ _ rfl]
    rfl

end Sys2Proof.Machine
end

section
/-! ## The invariants at reset -/

namespace Sys2Proof.Machine

open Sys2Proof

theorem EventSet.has_zero (k : EventKind) : EventSet.has 0 k = false :=
  BitVec.getLsbD_zero

/-- Settles O60: no event, no notice, no entry, no title and no span, and P and HSPAN at their defaults. -/
theorem resetMeetsTheInvariants : Obligations.ResetMeetsTheInvariants := by
  refine ⟨⟨rfl, rfl, fun k has => ?_, fun _ => EventSet.has_zero _⟩, ⟨Nat.zero_le _, .nil⟩, fun t live => ?_,
    ⟨?_, ?_⟩, ⟨fun spans waits => ?_, Nat.zero_le _⟩⟩
  · exact absurd has (Bool.eq_false_iff.mp (EventSet.has_zero k))
  · exact absurd (List.eq_of_mem_replicate live) (by simp)
  · change 393216 ≤ 524288 ∧ 524288 ≤ 655359
    omega
  · change 1536 ≤ 2048 ∧ 2048 ≤ 2559
    omega
  · exact absurd (show none = some spans from waits) (by simp)

end Sys2Proof.Machine
end

section
/-! ## Free field starts and the lines that carry no field start (02 R21, R38, R40) -/

namespace Sys2Proof.Machine

open Sys2Proof

/-- Free mode: REFERENCE = INTERNAL, or STANDBY (02 R38). -/
theorem State.following_eq_false_iff (s : State) :
    s.following = false ↔ s.settings.reference = .internal ∨ s.lle.lock = .standby := by
  rw [← Bool.not_eq_true, State.following_iff, not_and_or, not_not]
  cases s.settings.reference <;> simp

/-- The line that takes y = 3 carries the field step, unless the field has had it or the part is in STANDBY (02 R40). -/
theorem State.plainLine_fieldStep (s : State) (y' : Nat) :
    (s.plainLine y').2.fieldStep = decide (y' = 3 ∧ s.lle.stepTaken = false ∧ s.lle.lock ≠ .standby) := by
  rw [State.plainLine, Bool.eq_iff_iff]
  simp [and_assoc]

/-- A line without a field start takes its y, and the field step where it carries one (02 R21, R40). -/
theorem State.plainLine_lle (s : State) (y' : Nat) :
    (s.plainLine y').1.lle =
      { s.lle with
        y := y'
        stepTaken := s.lle.stepTaken || decide (y' = 3 ∧ s.lle.stepTaken = false ∧ s.lle.lock ≠ .standby) } := by
  rw [← State.plainLine_fieldStep]
  rfl

/-- The decisions that hand no length: a free field start, a free plain line, and a plain line in following mode. None
of them writes the port. -/
theorem State.decideVertical_cpr {s : State}
    (plain : s.following = false ∨ (s.sq.recognition = none ∧ s.lle.y + 1 ≠ s.lle.fieldLines + 4)) :
    s.decideVertical.1.cpr = s.cpr := by
  obtain ⟨p, f, r, -, eq⟩ | ⟨p, f, r, -, eq⟩ | ⟨f, -, late, eq⟩ | ⟨-, -, -, eq⟩ | ⟨-, -, eq⟩ | ⟨-, -, eq⟩ :=
    s.decideVertical_cases
  · simp [f, r] at plain
  · simp [f, r] at plain
  · simp [f, late] at plain
  all_goals rw [eq]; rfl

/-- Settles O21: the free field start, the plain line of each mode, and the port that none of them writes. -/
theorem freeFieldStartAndPlainLines : Obligations.FreeFieldStartAndPlainLines := by
  intro s t cues cueFirst run free stepHere
  obtain ⟨sq, lle, after⟩ := exec_lineStart_eq_next run
  have isFree (f : free) : (s.atLineStart cues).following = false := (State.following_eq_false_iff _).mpr f
  refine ⟨fun f full => ?_, fun f short => ?_, fun f missing other => ?_, fun quiet => ?_⟩
  · rw [State.decideVertical_free (isFree f) full] at sq lle
    rw [sq, lle]
    exact ⟨rfl, rfl, rfl, rfl, rfl, rfl, rfl, rfl, rfl, rfl⟩
  · rw [State.decideVertical_plain (isFree f) (Nat.not_le.mpr short)] at sq lle
    rw [sq, lle, State.plainLine_lle]
    exact ⟨rfl, rfl⟩
  · have following : (s.atLineStart cues).following = true := by
      rw [← Bool.not_eq_false]
      exact fun no => f ((State.following_eq_false_iff _).mp no)
    rw [State.decideVertical_following following missing other] at sq lle
    rw [sq, lle, State.plainLine_lle]
    exact ⟨rfl, rfl⟩
  · have port : (s.atLineStart cues).decideVertical.1.cpr = s.cpr :=
      State.decideVertical_cpr (s := s.atLineStart cues) (quiet.imp_left isFree)
    refine ⟨?_, ?_, ?_⟩
    · rw [after.attention, port]
    · rw [after.kept _ EventKind.not_afterDecision_standardChanged, port]
    · rw [after.kept _ EventKind.not_afterDecision_fieldIrregular, port]

end Sys2Proof.Machine
end

section
/-! ## The cue work of a line start (05 R99, 09 R156, R157) -/

namespace Sys2Proof.Machine

open Sys2Proof

/-! ### One cue line -/

theorem CueLine.hasEdge_of_tally {l : CueLine} {h : Nat} (tally : l.role = .tally h) (level : Level) :
    l.hasEdge level = false := by
  simp [CueLine.hasEdge, tally]

/-- A line that a freed record releases had no edge and has none (04 R71, 09 R156). -/
theorem CueLine.release_hasEdge (h : Nat) (l : CueLine) (level : Level) :
    (CueLine.release h l).hasEdge level = l.hasEdge level := by
  unfold CueLine.release
  split
  · rename_i tally
    rw [CueLine.hasEdge_of_tally tally]
    rfl
  · rfl

theorem CueLines.get_map (c : CueLines) (f : CueLine → CueLine) (n : Fin 4) : (c.map f).get n = f (c.get n) := by
  fin_cases n <;> rfl

/-- The part drives lines in TALLY alone, so that an edge depends on the outside level alone (09 R156, R158). -/
theorem State.hasEdge_cuePin (s : State) (n : Fin 4) :
    (s.clu.get n).hasEdge (s.cuePin n) = (s.clu.get n).hasEdge (cueLevel s.pins.cues n) := by
  cases role : (s.clu.get n).role with
  | input => simp [State.cuePin, State.driveLow, role]
  | tally h => rw [CueLine.hasEdge_of_tally role, CueLine.hasEdge_of_tally role]

/-! ### Marks over the whole table -/

/-- The marks of cue edges on every live record (05 R99). -/
def markAll (edge : Fin 4 → Bool) (titles : List (Option Title)) : List (Option Title) :=
  titles.map (Option.map (Title.markedBy edge))

theorem markAll_none (titles : List (Option Title)) : markAll (fun _ => false) titles = titles := by
  have same : Option.map (Title.markedBy fun _ => false) = id := by
    funext t
    cases t <;> simp
  rw [markAll, same, List.map_id]

theorem markAll_markAll (a b : Fin 4 → Bool) (titles : List (Option Title)) :
    markAll b (markAll a titles) = markAll (fun k => a k || b k) titles := by
  rw [markAll, markAll, markAll, List.map_map, Option.map_comp_map]
  congr 2
  funext r
  exact r.markedBy_markedBy a b

theorem State.title_of_markAll {s t : State} {edge : Fin 4 → Bool} (marked : t.titles = markAll edge s.titles)
    (h : Nat) : t.title h = (s.title h).map (Title.markedBy edge) := by
  unfold State.title
  split
  · rfl
  · rw [marked, markAll, List.getElem?_map]
    cases s.titles[h - 1]? <;> rfl

/-! ### One sample -/

/-- A cue edge that is handed to the TS, at a level (09 R157). -/
def State.handsEdge (s : State) (n : Fin 4) (level : Level) : Bool :=
  decide (s.lle.lock ≠ .standby) && (s.clu.get n).hasEdge level

theorem State.cueMark_eq (s : State) (n : Fin 4) :
    s.cueMark n = { s with titles := markAll (fun k => decide (k = n)) s.titles } := by
  have same : Title.cueMarked n = Title.markedBy fun k => decide (k = n) := by
    funext r
    exact r.cueMarked_eq_markedBy n
  rw [State.cueMark, markAll, same]

/-- One line's sample: the line takes it, and an edge raises its event and, outside STANDBY, marks the titles
(09 R156, R157). -/
theorem State.cueSample_eq (s : State) (n : Fin 4) (level : Level) :
    s.cueSample n level =
      { s with
        clu := s.clu.put n ((s.clu.get n).sampled level)
        titles := markAll (fun k => decide (k = n) && s.handsEdge n level) s.titles
        cpr := if (s.clu.get n).hasEdge level then (s.raise (.cue n)).cpr else s.cpr } := by
  cases edge : (s.clu.get n).hasEdge level with
  | false => simp [State.cueSample, State.handsEdge, edge, markAll_none]
  | true =>
    by_cases standby : s.lle.lock = .standby
    · simp [State.cueSample, State.handsEdge, edge, standby, markAll_none, State.raise]
    · simp [State.cueSample, State.handsEdge, edge, standby, State.cueMark_eq, State.raise]

theorem State.cueSample_get (s : State) (n m : Fin 4) (level : Level) :
    (s.cueSample n level).clu.get m = if m = n then (s.clu.get n).sampled level else s.clu.get m := by
  rw [State.cueSample_eq, CueLines.get_put]

theorem State.cueSample_titles (s : State) (n : Fin 4) (level : Level) :
    (s.cueSample n level).titles = markAll (fun k => decide (k = n) && s.handsEdge n level) s.titles := by
  rw [State.cueSample_eq]

theorem State.cueSample_handsEdge (s : State) {n m : Fin 4} (ne : m ≠ n) (level other : Level) :
    (s.cueSample n level).handsEdge m other = s.handsEdge m other := by
  rw [State.handsEdge, State.cueSample_get, if_neg ne, (s.cueSample_core n level).lle, State.handsEdge]

theorem State.cueSample_notices (s : State) (n : Fin 4) (level : Level) :
    (s.cueSample n level).cpr.notices = s.cpr.notices := by
  rw [State.cueSample_eq]
  dsimp only
  split <;> rfl

theorem State.cueSample_has (s : State) (n : Fin 4) (level : Level) (k : EventKind) :
    (s.cueSample n level).cpr.events.has k =
      (s.cpr.events.has k || (decide (k = .cue n) && ((s.clu.get n).hasEdge level && s.cpr.enables.has k))) := by
  rw [State.cueSample_eq]
  by_cases same : k = .cue n
  · subst same
    cases edge : (s.clu.get n).hasEdge level <;> simp [State.raise_has]
  · cases edge : (s.clu.get n).hasEdge level <;> simp [State.raise_has, same]

theorem State.cueSample_enables (s : State) (n : Fin 4) (level : Level) :
    (s.cueSample n level).cpr.enables = s.cpr.enables :=
  (s.cueSample_reports n level).enables

/-! ### All four lines -/

/-- Every line takes its own sample, as its pin stands before the first is taken. -/
theorem State.cueWork_get (s : State) (n : Fin 4) : s.cueWork.clu.get n = (s.clu.get n).sampled (s.cuePin n) := by
  simp only [State.cueWork, State.cueSample_get]
  fin_cases n <;> rfl

theorem State.cueWork_titles (s : State) :
    s.cueWork.titles = markAll (fun n => s.handsEdge n (s.cuePin n)) s.titles := by
  have edges : (fun n => s.handsEdge n (s.cuePin n)) = fun k =>
      decide (k = 0) && s.handsEdge 0 (s.cuePin 0) || (decide (k = 1) && s.handsEdge 1 (s.cuePin 1) ||
        (decide (k = 2) && s.handsEdge 2 (s.cuePin 2) || decide (k = 3) && s.handsEdge 3 (s.cuePin 3))) := by
    funext k
    fin_cases k <;> simp
  rw [edges, State.cueWork, State.cueSample_titles, State.cueSample_titles, State.cueSample_titles,
    State.cueSample_titles, markAll_markAll, markAll_markAll, markAll_markAll]
  simp [State.cueSample_handsEdge]

theorem State.cueWork_notices (s : State) : s.cueWork.cpr.notices = s.cpr.notices := by
  simp only [State.cueWork, State.cueSample_notices]

/-- An edge raises the event of its line (09 R157). -/
theorem State.cueWork_has_cue (s : State) (n : Fin 4) :
    s.cueWork.cpr.events.has (.cue n) =
      (s.cpr.events.has (.cue n) || ((s.clu.get n).hasEdge (s.cuePin n) && s.cpr.enables.has (.cue n))) := by
  simp only [State.cueWork, State.cueSample_has, State.cueSample_enables, State.cueSample_get]
  fin_cases n <;> simp

end Sys2Proof.Machine
end

section
/-! ## The work of each title settled in turn (05 R83, R92, R100) -/

namespace Sys2Proof.Machine

open Sys2Proof

/-! ### One title's work settled -/

/-- The work of a title frees its record: it raised DONE, with auto-retire YES (05 R92). -/
def retires (w : TitleWork) : Bool :=
  w.2.contains .done && w.1.autoRetire

/-- What the settling of a title's work leaves in its place. -/
def remains (w : TitleWork) : Option Title :=
  if retires w then none else some w.1

theorem retires_iff (w : TitleWork) : retires w = true ↔ .done ∈ w.2 ∧ w.1.autoRetire = true := by
  simp [retires]

theorem remains_isSome (w : TitleWork) : (remains w).isSome = !retires w := by
  unfold remains
  cases retires w <;> rfl

theorem State.settleTitle_eq (s : State) (h : Nat) (w : TitleWork) :
    s.settleTitle h w =
      let put := (s.setTitle h (some w.1)).notifyAll h w.2
      if retires w then put.freeRecord h else put := rfl

theorem State.title_congr {s t : State} (same : t.titles = s.titles) (k : Nat) : t.title k = s.title k := by
  rw [State.title, State.title, same]

theorem State.notifyAll_titles (s : State) (h : Nat) (ns : List Notice) : (s.notifyAll h ns).titles = s.titles := by
  rw [State.notifyAll_eq]

theorem State.notifyAll_clu (s : State) (h : Nat) (ns : List Notice) : (s.notifyAll h ns).clu = s.clu := by
  rw [State.notifyAll_eq]

theorem State.freeRecord_titles (s : State) (h : Nat) : (s.freeRecord h).titles = (s.setTitle h none).titles := rfl

theorem State.settleTitle_titles_length (s : State) (h : Nat) (w : TitleWork) :
    (s.settleTitle h w).titles.length = s.titles.length := by
  rw [State.settleTitle_eq]
  dsimp only
  split <;> simp [State.freeRecord_titles, State.notifyAll_titles]

/-- The record of the title is what its work leaves, and no other changes. -/
theorem State.title_settleTitle (s : State) {h : Nat} (pos : 0 < h) (le : h ≤ s.titles.length) (w : TitleWork)
    (k : Nat) : (s.settleTitle h w).title k = if k = h then remains w else s.title k := by
  have put (k : Nat) : ((s.setTitle h (some w.1)).notifyAll h w.2).title k = (s.setTitle h (some w.1)).title k :=
    State.title_congr (State.notifyAll_titles _ _ _) k
  rw [State.settleTitle_eq, remains]
  dsimp only
  split
  · rw [State.title_congr (State.freeRecord_titles _ _)]
    split
    · rename_i same
      rw [same, State.title_setTitle_same _ pos (by simpa [State.notifyAll_titles] using le)]
    · rename_i other
      rw [State.title_setTitle_other _ other, put, State.title_setTitle_other _ other]
  · split
    · rename_i same
      rw [same, put, State.title_setTitle_same _ pos le]
    · rename_i other
      rw [put, State.title_setTitle_other _ other]

theorem State.notify_noticeSet_has (s : State) {h : Nat} (pos : 0 < h) (le : h ≤ s.cpr.notices.length) (m : Notice)
    (g : Nat) (n : Notice) :
    ((s.notify h m).noticeSet g).has n = ((s.noticeSet g).has n || decide (g = h ∧ n = m)) := by
  have raised : (s.notify h m).noticeSet g = (s.setNotices h ((s.noticeSet h).add m)).noticeSet g := rfl
  rw [raised, State.noticeSet_setNotices s pos le]
  by_cases same : g = h
  · subst same; simp [NoticeSet.has_add]
  · simp [same]

/-- The notices of a title's work join the set of its handle (05 R100). -/
theorem State.notifyAll_noticeSet_has (s : State) {h : Nat} (pos : 0 < h) (le : h ≤ s.cpr.notices.length)
    (ns : List Notice) (g : Nat) (n : Notice) :
    ((s.notifyAll h ns).noticeSet g).has n = true ↔ (s.noticeSet g).has n = true ∨ (g = h ∧ n ∈ ns) := by
  induction ns generalizing s with
  | nil => simp [State.notifyAll]
  | cons m rest ih =>
    have step : s.notifyAll h (m :: rest) = (s.notify h m).notifyAll h rest := rfl
    rw [step, ih _ (by simpa using le), State.notify_noticeSet_has s pos le]
    simp only [Bool.or_eq_true, decide_eq_true_eq, List.mem_cons]
    tauto

theorem State.notify_has_titleActivity (s : State) (h : Nat) (n : Notice) :
    (s.notify h n).cpr.events.has .titleActivity =
      (s.cpr.events.has .titleActivity || s.cpr.enables.has .titleActivity) := by
  have port := (State.setNotices_reports (fun _ => False) s h ((s.noticeSet h).add n))
  rw [State.notify_eq, State.raise_has, port.kept _ id, port.enables, decide_eq_true rfl, Bool.true_and]

/-- The notices of a title's work raise TITLE ACTIVITY, where there is one (05 R100). -/
theorem State.notifyAll_has_titleActivity (s : State) (h : Nat) (ns : List Notice) :
    (s.notifyAll h ns).cpr.events.has .titleActivity = true ↔
      s.cpr.events.has .titleActivity = true ∨ (s.cpr.enables.has .titleActivity = true ∧ ns ≠ []) := by
  induction ns generalizing s with
  | nil => simp [State.notifyAll]
  | cons m rest ih =>
    have step : s.notifyAll h (m :: rest) = (s.notify h m).notifyAll h rest := rfl
    rw [step, ih, State.notify_has_titleActivity, State.notify_enables, Bool.or_eq_true]
    simp only [ne_eq, reduceCtorEq, not_false_eq_true, and_true]
    tauto

theorem State.settleTitle_cpr (s : State) (h : Nat) (w : TitleWork) :
    (s.settleTitle h w).cpr = ((s.setTitle h (some w.1)).notifyAll h w.2).cpr := by
  rw [State.settleTitle_eq]
  dsimp only
  split <;> simp

theorem State.noticeSet_congr {s t : State} (same : t.cpr.notices = s.cpr.notices) (g : Nat) :
    t.noticeSet g = s.noticeSet g := by
  rw [State.noticeSet, State.noticeSet, same]

theorem State.notifyAll_notices_length (s : State) (h : Nat) (ns : List Notice) :
    (s.notifyAll h ns).cpr.notices.length = s.cpr.notices.length := by
  induction ns generalizing s with
  | nil => rfl
  | cons n rest ih => exact (ih _).trans (s.notify_notices_length h n)

/-- The queue loses the entries of a freed record (05 R92, 04 R71). -/
theorem State.settleTitle_entries (s : State) (h : Nat) (w : TitleWork) :
    (s.settleTitle h w).aq.entries = s.aq.entries.filter fun e => !(decide (e.handle = h) && retires w) := by
  rw [State.settleTitle_eq]
  dsimp only
  cases retires w with
  | false => simp [State.notifyAll_aq]
  | true =>
    simp only [if_true, State.freeRecord, State.setTitle_aq, State.notifyAll_aq, Bool.and_true]
    exact List.filter_congr fun e _ => by rw [bne, beq_eq_decide]

theorem State.settleTitle_hasEdge (s : State) (h : Nat) (w : TitleWork) (n : Fin 4) (level : Level) :
    ((s.settleTitle h w).clu.get n).hasEdge level = (s.clu.get n).hasEdge level := by
  rw [State.settleTitle_eq]
  dsimp only
  split
  · simp only [State.freeRecord, State.setTitle_clu, State.notifyAll_clu, CueLines.get_map, CueLine.release_hasEdge]
  · rw [State.notifyAll_clu, State.setTitle_clu]

/-! ### The work of many titles -/

/-- The record of a handle, where it is live, worked on and settled. -/
def State.settleWork (s : State) (work : Title → TitleWork) (h : Nat) : State :=
  match s.title h with
  | none => s
  | some r => s.settleTitle h (work r)

/-- What the settling of the work of the handles `hs` does: each live record takes its own work and no other, the
notices join the sets of their handles and raise TITLE ACTIVITY, a freed record takes its entries with it, and no cue
line gains or loses an edge. -/
structure State.Settles (s : State) (work : Title → TitleWork) (hs : List Nat) (t : State) : Prop where
  titlesLength : t.titles.length = s.titles.length
  noticesLength : t.cpr.notices.length = s.cpr.notices.length
  enables : t.cpr.enables = s.cpr.enables
  title : ∀ h, t.title h = if h ∈ hs then (s.title h).bind fun r => remains (work r) else s.title h
  notice : ∀ h n, (t.noticeSet h).has n = true ↔
    (s.noticeSet h).has n = true ∨ (h ∈ hs ∧ ∃ r, s.title h = some r ∧ n ∈ (work r).2)
  activity : t.cpr.events.has .titleActivity = true ↔
    s.cpr.events.has .titleActivity = true ∨
      (s.cpr.enables.has .titleActivity = true ∧ ∃ h ∈ hs, ∃ r, s.title h = some r ∧ (work r).2 ≠ [])
  entries : t.aq.entries = s.aq.entries.filter fun e =>
    !(decide (e.handle ∈ hs) && (s.title e.handle).any fun r => retires (work r))
  edges : ∀ n level, (t.clu.get n).hasEdge level = (s.clu.get n).hasEdge level

theorem State.Settles.nil (s : State) (work : Title → TitleWork) : s.Settles work [] s := by
  constructor <;> simp

theorem State.settleWork_settles (s : State) (work : Title → TitleWork) {h : Nat}
    (len : s.titles.length = s.cpr.notices.length) : s.Settles work [h] (s.settleWork work h) := by
  unfold State.settleWork
  cases live : s.title h with
  | none =>
    refine ⟨rfl, rfl, rfl, fun k => ?_, fun k n => ?_, ?_, ?_, fun _ _ => rfl⟩
    · by_cases same : k = h <;> simp [same, live]
    · by_cases same : k = h <;> simp [same, live]
    · simp [live]
    · refine (List.filter_eq_self.mpr fun e _ => ?_).symm
      by_cases same : e.handle = h <;> simp [same, live]
  | some r =>
    obtain ⟨pos, le⟩ := State.title_some_bounds live
    have port := s.settleTitle_cpr h (work r)
    refine ⟨s.settleTitle_titles_length h _, ?_, (s.settleTitle_reports h _).enables, fun k => ?_, fun k n => ?_, ?_,
      ?_, s.settleTitle_hasEdge h _⟩
    · rw [port, State.notifyAll_notices_length, State.setTitle_cpr]
    · rw [State.title_settleTitle s pos le]
      by_cases same : k = h <;> simp [same, live]
    · rw [State.noticeSet_congr (t := s.settleTitle h (work r)) (congrArg CommandPort.notices port),
        State.notifyAll_noticeSet_has _ pos (by simpa [← len] using le),
        State.noticeSet_congr (t := s.setTitle h (some (work r).1)) (s := s) (by simp)]
      by_cases same : k = h <;> simp [same, live]
    · rw [port, State.notifyAll_has_titleActivity, State.setTitle_cpr]
      simp [live]
    · rw [State.settleTitle_entries]
      refine List.filter_congr fun e _ => ?_
      by_cases same : e.handle = h <;> simp [same, live]

theorem State.Settles.cons {s t u : State} {work : Title → TitleWork} {h : Nat} {rest : List Nat} (new : h ∉ rest)
    (a : s.Settles work [h] t) (b : t.Settles work rest u) : s.Settles work (h :: rest) u := by
  have later {k : Nat} (k_rest : k ∈ rest) : t.title k = s.title k := by
    rw [a.title, if_neg]
    rintro isFirst
    exact new (List.mem_singleton.mp isFirst ▸ k_rest)
  refine ⟨b.titlesLength.trans a.titlesLength, b.noticesLength.trans a.noticesLength, b.enables.trans a.enables,
    fun k => ?_, fun k n => ?_, ?_, ?_, fun n level => (b.edges n level).trans (a.edges n level)⟩
  · rw [b.title]
    by_cases inRest : k ∈ rest
    · simp [inRest, later inRest]
    · rw [if_neg inRest, a.title]
      simp [inRest]
  · rw [b.notice, a.notice, or_assoc]
    refine or_congr_right ?_
    by_cases inRest : k ∈ rest
    · have ne : k ≠ h := fun same => new (same ▸ inRest)
      simp [inRest, later inRest, ne]
    · simp [inRest]
  · rw [b.activity, a.activity, a.enables, or_assoc]
    refine or_congr_right ?_
    rw [← and_or_left]
    refine and_congr_right fun _ => ?_
    have rest_same : (∃ k ∈ rest, ∃ r, t.title k = some r ∧ (work r).2 ≠ []) ↔
        ∃ k ∈ rest, ∃ r, s.title k = some r ∧ (work r).2 ≠ [] :=
      exists_congr fun k => and_congr_right fun inRest => by rw [later inRest]
    rw [rest_same]
    simp
  · rw [b.entries, a.entries, List.filter_filter]
    refine List.filter_congr fun e _ => ?_
    by_cases inRest : e.handle ∈ rest
    · have ne : e.handle ≠ h := fun same => new (same ▸ inRest)
      simp [inRest, later inRest, ne]
    · simp [inRest]

theorem State.settleEach_settles (work : Title → TitleWork) {hs : List Nat} (distinct : hs.Nodup) {s : State}
    (len : s.titles.length = s.cpr.notices.length) :
    s.Settles work hs (hs.foldl (fun s h => s.settleWork work h) s) := by
  induction hs generalizing s with
  | nil => exact .nil s work
  | cons h rest ih =>
    obtain ⟨new, distinct⟩ := List.nodup_cons.mp distinct
    have first := s.settleWork_settles work (h := h) len
    exact first.cons new (ih distinct (by rw [first.titlesLength, first.noticesLength, len]))

/-! ### The field step (05 R83) -/

theorem State.settleWork_core (s : State) (work : Title → TitleWork) (h : Nat) : s.SameCore (s.settleWork work h) := by
  unfold State.settleWork
  split
  · exact .refl s
  · exact s.settleTitle_core h _

/-- The field step works on every title at the one field counter. -/
theorem State.fieldStep_eq (s : State) :
    s.fieldStep = handles.foldl (fun s h => s.settleWork (titleStep s.lle.fieldCounter) h) s := rfl

theorem foldl_settleWork_titleStep (hs : List Nat) {s : State} {k : BitVec 16} (counter : s.lle.fieldCounter = k) :
    hs.foldl (fun s h => s.settleWork (titleStep s.lle.fieldCounter) h) s =
      hs.foldl (fun s h => s.settleWork (titleStep k) h) s := by
  induction hs generalizing s with
  | nil => rfl
  | cons h rest ih =>
    rw [List.foldl_cons, List.foldl_cons, counter]
    exact ih (by rw [(s.settleWork_core _ h).lle, counter])

theorem State.fieldStep_settles {s : State} (len : s.titles.length = s.cpr.notices.length) :
    s.Settles (titleStep s.lle.fieldCounter) handles s.fieldStep := by
  rw [State.fieldStep_eq, foldl_settleWork_titleStep handles rfl]
  exact State.settleEach_settles _ List.nodup_range' len

end Sys2Proof.Machine
end

section
/-! ## The titles and the cue lines at a line start (05 R83 to R85, R99 to R101, 09 R156, R157) -/

namespace Sys2Proof.Machine

open Sys2Proof

/-! ### The notices of a commit (07 R128) -/

/-- Two states with the same notices and cue lines, and TITLE ACTIVITY pending in both or in neither. -/
structure State.NoticesAlike (s t : State) : Prop where
  notices : t.cpr.notices = s.cpr.notices
  activity : t.cpr.events.has .titleActivity = s.cpr.events.has .titleActivity
  clu : t.clu = s.clu

theorem State.NoticesAlike.setTitle {s t : State} (a : s.NoticesAlike t) (h : Nat) (r : Option Title) :
    (s.setTitle h r).NoticesAlike (t.setTitle h r) :=
  ⟨by simp [a.notices], by simp [a.activity], by simp [a.clu]⟩

theorem State.notify_notices (s : State) (h : Nat) (n : Notice) :
    (s.notify h n).cpr.notices =
      if h = 0 then s.cpr.notices else s.cpr.notices.set (h - 1) ((s.noticeSet h).add n) := by
  rw [State.notify_eq, State.raise_notices, State.setNotices]
  split <;> rfl

theorem State.NoticesAlike.notify {s t : State} (a : s.NoticesAlike t) (enables : t.cpr.enables = s.cpr.enables)
    (h : Nat) (n : Notice) : (s.notify h n).NoticesAlike (t.notify h n) where
  notices := by rw [State.notify_notices, State.notify_notices, a.notices, State.noticeSet_congr a.notices]
  activity := by rw [State.notify_has_titleActivity, State.notify_has_titleActivity, a.activity, enables]
  clu := by simp [a.clu]

theorem applyEntry_noticesAlike {acc acc' : State × Bool} (c : acc.1.CommitAlike acc'.1) (a : acc.1.NoticesAlike acc'.1)
    (e : Entry) : (applyEntry acc e).1.NoticesAlike (applyEntry acc' e).1 := by
  unfold applyEntry
  split
  · exact ⟨a.notices, a.activity, a.clu⟩
  · rw [c.title e.handle, c.settings]
    split
    · exact a
    · split
      · exact a.setTitle _ _
      · exact a.notify c.enables _ _

theorem applyEntries_noticesAlike (es : List Entry) {acc acc' : State × Bool} (c : acc.1.CommitAlike acc'.1)
    (flag : acc'.2 = acc.2) (a : acc.1.NoticesAlike acc'.1) :
    (es.foldl applyEntry acc).1.NoticesAlike (es.foldl applyEntry acc').1 := by
  induction es generalizing acc acc' with
  | nil => exact a
  | cons e rest ih =>
    obtain ⟨next, flag'⟩ := applyEntry_alike c flag e
    exact ih next flag' (applyEntry_noticesAlike c a e)

theorem State.NoticesAlike.raiseDrained {s t : State} (a : s.NoticesAlike t) :
    (s.raise .queueDrained).NoticesAlike (t.raise .queueDrained) :=
  ⟨a.notices, by rw [State.raise_has, State.raise_has, a.activity]; simp, a.clu⟩

theorem State.NoticesAlike.commit {s t : State} (c : s.CommitAlike t) (a : s.NoticesAlike t) :
    s.commit.NoticesAlike t.commit := by
  by_cases idle : s.aq.held = true ∨ s.aq.entries = []
  · rw [State.commit_of_idle idle, State.commit_of_idle (c.aq ▸ idle)]; exact a
  · obtain ⟨-, flag⟩ := applyEntries_alike s.aq.entries (acc := (s, false)) (acc' := (t, false)) c rfl
    have applied := applyEntries_noticesAlike s.aq.entries (acc := (s, false)) (acc' := (t, false)) c rfl a
    have emptied : (s.aq.entries.foldl applyEntry (s, false)).1.withEmptyQueue.NoticesAlike
        (s.aq.entries.foldl applyEntry (t, false)).1.withEmptyQueue := ⟨applied.notices, applied.activity, applied.clu⟩
    rw [State.commit_of_waiting idle, State.commit_of_waiting (c.aq ▸ idle), c.aq]
    dsimp only
    rw [flag]
    split
    · exact emptied.raiseDrained
    · exact emptied

/-- What a commit keeps: the places of the table and of the store, the enables and the cue lines. -/
structure State.SamePlaces (s t : State) : Prop where
  titles : t.titles.length = s.titles.length
  notices : t.cpr.notices.length = s.cpr.notices.length
  clu : t.clu = s.clu

theorem applyEntry_samePlaces (acc : State × Bool) (e : Entry) : acc.1.SamePlaces (applyEntry acc e).1 := by
  obtain ⟨s, written⟩ := acc
  obtain ⟨-, eq⟩ | ⟨-, -, eq⟩ | ⟨t, -, -, -, eq⟩ | ⟨t, -, -, -, eq⟩ := applyEntry_cases s written e <;> rw [eq]
  · exact ⟨rfl, rfl, rfl⟩
  · exact ⟨rfl, rfl, rfl⟩
  · exact ⟨by simp, by simp, by simp⟩
  · exact ⟨by simp, by simp, by simp⟩

theorem applyEntries_samePlaces (es : List Entry) (acc : State × Bool) :
    acc.1.SamePlaces (es.foldl applyEntry acc).1 := by
  induction es generalizing acc with
  | nil => exact ⟨rfl, rfl, rfl⟩
  | cons e rest ih =>
    have first := applyEntry_samePlaces acc e
    have later := ih (applyEntry acc e)
    exact ⟨later.titles.trans first.titles, later.notices.trans first.notices, later.clu.trans first.clu⟩

theorem State.commit_samePlaces (s : State) : s.SamePlaces s.commit := by
  by_cases idle : s.aq.held = true ∨ s.aq.entries = []
  · rw [State.commit_of_idle idle]; exact ⟨rfl, rfl, rfl⟩
  · have applied := applyEntries_samePlaces s.aq.entries (s, false)
    rw [State.commit_of_waiting idle]
    dsimp only
    split <;> exact ⟨applied.titles, applied.notices, applied.clu⟩

theorem State.committedAt_samePlaces (s : State) : s.SamePlaces s.committedAt := by
  unfold State.committedAt
  split
  · exact s.commit_samePlaces
  · exact ⟨rfl, rfl, rfl⟩

/-! ### The state in which titles and cue lines are worked on -/

theorem State.committedAt_noticesAlike (s : State) (cues : CueLevels) :
    s.committedAt.NoticesAlike (s.committedLine cues) := by
  have decided : s.NoticesAlike (s.atLineStart cues).decideVertical.1 := by
    have d := s.lineStart_decision cues
    exact ⟨by rw [d.cpr]; rfl, d.events _ (by simp) (by simp), by rw [d.frame]; rfl⟩
  unfold State.committedAt State.committedLine
  dsimp only
  rw [State.lineStart_fieldStart]
  split
  · exact decided.commit (s.decideVertical_alike cues)
  · exact decided

/-- The state of a line start once its span list is built: the titles and the cue lines are worked on from here. -/
def State.builtLine (s : State) (cues : CueLevels) : State :=
  (s.settledLine cues).beginLine.buildSpans

theorem State.lineStart_eq_builtLine (s : State) (cues : CueLevels) (cueFirst : Bool) :
    s.lineStart cues cueFirst =
      (s.builtLine cues).stepAndCues (s.atLineStart cues).decideVertical.2.fieldStep cueFirst := rfl

theorem State.buildSpans_notices (s : State) : s.buildSpans.cpr.notices = s.cpr.notices := by
  rw [State.buildSpans_eq]
  dsimp only
  split <;> rfl

theorem State.builtLine_begun (s : State) (cues : CueLevels) :
    (s.builtLine cues).titles = (s.committedLine cues).titles ∧ (s.builtLine cues).aq = (s.committedLine cues).aq ∧
    (s.builtLine cues).clu = (s.committedLine cues).clu ∧ (s.builtLine cues).lle = (s.committedLine cues).lle ∧
    (s.builtLine cues).pins = (s.committedLine cues).pins ∧
    (s.builtLine cues).cpr.notices = (s.committedLine cues).cpr.notices ∧
    (s.committedLine cues).Reports (· = .spanOverflow) (s.builtLine cues) := by
  obtain ⟨-, lle, -, -, -, pins, titles, aq, clu, -⟩ := (s.settledLine cues).beginLine.buildSpans_blocks
  have notices := (s.settledLine cues).beginLine.buildSpans_notices
  have reports := (s.settledLine cues).beginLine.buildSpans_reports
  have frame := s.settledLine_frame cues
  rw [State.beginLine_frame] at titles aq clu lle pins notices
  have begun : (s.committedLine cues).Reports (· = .spanOverflow) (s.settledLine cues).beginLine :=
    .of_cpr_eq _ (by simp)
  exact ⟨titles.trans (by rw [frame]), aq.trans (by rw [frame]), clu.trans (by rw [frame]), lle.trans (by rw [frame]),
    pins.trans (by rw [frame]), notices.trans (by rw [frame]), begun.trans reports⟩

/-- The records, the queue, the cue lines, the notices and TITLE ACTIVITY before the work on the titles are those that
the commit leaves of the state before the line start; the cue levels are those brought. -/
theorem State.builtLine_blocks (s : State) (cues : CueLevels) :
    (s.builtLine cues).titles = s.committedAt.titles ∧ (s.builtLine cues).aq = s.committedAt.aq ∧
    (s.builtLine cues).clu = s.clu ∧ (s.builtLine cues).lle.lock = s.lle.lock ∧
    (s.builtLine cues).pins = { s.pins with cues := cues } ∧
    (s.builtLine cues).cpr.notices = s.committedAt.cpr.notices ∧
    (s.builtLine cues).cpr.enables = s.cpr.enables ∧
    (s.builtLine cues).cpr.events.has .titleActivity = s.committedAt.cpr.events.has .titleActivity := by
  obtain ⟨titles, aq, clu, lle, pins, notices, reports⟩ := s.builtLine_begun cues
  have commit := s.committedAt_alike cues
  have noted := s.committedAt_noticesAlike cues
  have core := s.committedLine_core cues
  have d := s.lineStart_decision cues
  have committed := s.committedLine_reports cues
  refine ⟨titles.trans commit.titles, aq.trans commit.aq, clu.trans (noted.clu.trans s.committedAt_samePlaces.clu), ?_,
    ?_, notices.trans noted.notices, ?_, ?_⟩
  · rw [lle, core.lle, d.lle]; rfl
  · rw [pins, core.pins, d.frame]; rfl
  · rw [reports.enables, committed.enables, d.cpr]; rfl
  · rw [reports.kept _ (by simp), noted.activity]

/-- The edges that the cue work of a line start hands to the TS are those of the lines before it (09 R157). -/
theorem State.builtLine_handsEdge (s : State) (cues : CueLevels) (n : Fin 4) :
    (s.builtLine cues).handsEdge n ((s.builtLine cues).cuePin n) = s.cueEdge cues n := by
  obtain ⟨-, -, clu, lock, pins, -⟩ := s.builtLine_blocks cues
  rw [State.handsEdge, State.hasEdge_cuePin, clu, lock, pins, State.cueEdge]

/-! ### The field step of a line start (02 R36, R40) -/

/-- In following mode the recognition forestalls the step, and the flywheel's line carries it (02 R35 to R37, R40). -/
theorem State.stepsField_of_following {s : State} (f : s.following = true) :
    s.stepsField =
      decide (s.sq.recognition = none ∧
        (s.lle.y + 1 = s.lle.fieldLines + 4 ∨ (s.lle.y + 1 = 3 ∧ s.lle.stepTaken = false))) := by
  obtain ⟨reference, lock⟩ := s.following_iff.mp f
  rw [State.stepsField, if_neg lock, if_pos reference]

/-- In free mode a line short of a field start carries it, outside STANDBY (02 R38, R40). -/
theorem State.stepsField_of_free {s : State} (f : s.following = false) :
    s.stepsField =
      decide (s.lle.lock ≠ .standby ∧ s.lle.y + 1 < s.lle.fieldLines + 2 ∧ s.lle.y + 1 = 3 ∧
        s.lle.stepTaken = false) := by
  by_cases standby : s.lle.lock = .standby
  · rw [State.stepsField, if_pos standby]; simp [standby]
  · have reference : s.settings.reference ≠ .lock := fun locked => by
      rw [s.following_iff.mpr ⟨locked, standby⟩] at f; cases f
    rw [State.stepsField, if_neg standby, if_neg reference]; simp [standby]

/-- A line start carries a field step just where the spec's rules say so (02 R36, R40). -/
theorem State.decideVertical_fieldStep (s : State) : s.decideVertical.2.fieldStep = s.stepsField := by
  obtain ⟨p, f, r, -, eq⟩ | ⟨p, f, r, -, eq⟩ | ⟨f, r, late, eq⟩ | ⟨f, r, other, eq⟩ | ⟨f, full, eq⟩ | ⟨f, short, eq⟩ :=
    s.decideVertical_cases
  · rw [eq, State.stepsField_of_following f, r]; simp
  · rw [eq, State.stepsField_of_following f, r]; simp
  · rw [eq, State.stepsField_of_following f, r]; simp [late]
  · have awake := (s.following_iff.mp f).2
    rw [eq, State.stepsField_of_following f, State.plainLine_fieldStep, decide_eq_decide]
    change s.lle.y + 1 = 3 ∧ s.lle.stepTaken = false ∧ s.lle.lock ≠ .standby ↔ _
    tauto
  · rw [eq, State.stepsField_of_free f]
    exact (decide_eq_false fun h => absurd h.2.1 (Nat.not_lt.mpr full)).symm
  · have before := Nat.not_le.mp short
    rw [eq, State.stepsField_of_free f, State.plainLine_fieldStep, decide_eq_decide]
    change s.lle.y + 1 = 3 ∧ s.lle.stepTaken = false ∧ s.lle.lock ≠ .standby ↔ _
    tauto

/-- The field counter advances at a field start event and nowhere else (02 R41). -/
theorem State.decideVertical_fieldCounter (s : State) : s.decideVertical.1.lle.fieldCounter = s.counterAt := by
  have starts := s.decideVertical_fieldStart
  rw [State.counterAt, ← starts]
  obtain ⟨p, -, -, -, eq⟩ | ⟨p, -, -, -, eq⟩ | ⟨-, -, -, eq⟩ | ⟨-, -, -, eq⟩ | ⟨-, -, eq⟩ | ⟨-, -, eq⟩ :=
    s.decideVertical_cases <;> rw [eq]
  · rw [State.realFieldStart_lle]; rfl
  · rw [State.realignment_lle]; rfl
  · rw [State.flywheelFieldStart_lle]; rfl
  · rfl
  · rfl
  · rfl

theorem State.builtLine_fieldCounter (s : State) (cues : CueLevels) :
    (s.builtLine cues).lle.fieldCounter = s.counterAt := by
  obtain ⟨-, -, -, lle, -⟩ := s.builtLine_begun cues
  rw [lle, (s.committedLine_core cues).lle, State.decideVertical_fieldCounter]
  rfl

/-- A line start by what it does to titles and cue lines: the cue work alone, or the cue work before or after a field
step (09 R157). -/
theorem State.lineStart_cases (s : State) (cues : CueLevels) (cueFirst : Bool) :
    s.lineStart cues cueFirst =
      if s.stepsField then
        if cueFirst then (s.builtLine cues).cueWork.fieldStep else (s.builtLine cues).fieldStep.cueWork
      else (s.builtLine cues).cueWork := by
  have step : (s.atLineStart cues).decideVertical.2.fieldStep = s.stepsField := State.decideVertical_fieldStep _
  rw [State.lineStart_eq_builtLine, step, State.stepAndCues]
  cases s.stepsField <;> rfl

theorem exec_lineStart_next {s t : State} {cues : CueLevels} {cueFirst : Bool}
    (run : exec (.lineStart cues cueFirst) s = .next t) : t = s.lineStart cues cueFirst := by
  rw [exec_lineStart, whenDue_eq_next_iff] at run
  exact run.2

end Sys2Proof.Machine
end

section
/-! ## What a line start leaves of the titles (05 R83, R92, R99 to R101, 09 R156, R157) -/

namespace Sys2Proof.Machine

open Sys2Proof

/-! ### In STANDBY (05 R101) -/

theorem State.driveLow_congr {s t : State} (titles : t.titles = s.titles) (clu : t.clu = s.clu)
    (reset : t.pins.resetLow = s.pins.resetLow) (n : Fin 4) : t.driveLow n = s.driveLow n := by
  rw [State.driveLow, State.driveLow, clu, reset]
  simp only [State.title_congr titles]

theorem State.committedAt_of_idle {s : State} (idle : s.aq.held = true ∨ s.aq.entries = []) : s.committedAt = s := by
  rw [State.committedAt, State.commit_of_idle idle, ite_self]

theorem State.builtLine_has_cue (s : State) (cues : CueLevels) (n : Fin 4) :
    (s.builtLine cues).cpr.events.has (.cue n) = s.cpr.events.has (.cue n) := by
  obtain ⟨-, -, -, -, -, -, reports⟩ := s.builtLine_begun cues
  rw [reports.kept _ (by simp), (s.committedLine_reports cues).kept _ (by simp)]
  exact (s.lineStart_decision cues).events _ (by simp) (by simp)

/-- Settles O26: without a commit and a field step the cue work alone is left, and in STANDBY it marks nothing. -/
theorem standbyLineStartKeepsTheTitles : Obligations.StandbyLineStartKeepsTheTitles := by
  intro s t cues cueFirst run standby idle
  obtain ⟨titles, aq, clu, -, pins, notices, enables, -⟩ := s.builtLine_blocks cues
  rw [State.committedAt_of_idle idle] at titles aq notices
  have noStep : s.stepsField = false := by rw [State.stepsField, if_pos standby]
  have cueWork : t = (s.builtLine cues).cueWork := by
    rw [exec_lineStart_next run, State.lineStart_cases, noStep]; rfl
  have noEdge : (fun n => (s.builtLine cues).handsEdge n ((s.builtLine cues).cuePin n)) = fun _ => false := by
    funext n
    simp [State.builtLine_handsEdge, State.cueEdge, standby]
  rw [cueWork]
  refine ⟨?_, ?_, ?_, fun n => ?_⟩
  · rw [State.cueWork_titles, noEdge, markAll_none, titles]
  · rw [State.cueWork_notices, notices]
  · rw [State.cueWork_aq, aq]
  · intro level
    have drive : (s.builtLine cues).driveLow n = s.driveLow n := State.driveLow_congr titles clu (by rw [pins]) n
    have pin : (s.builtLine cues).cuePin n = level := by rw [State.cuePin, drive, pins]
    rw [State.cueWork_get, State.cueWork_has_cue, State.builtLine_has_cue, pin, clu, enables]
    exact ⟨rfl, by rw [Bool.or_eq_true, Bool.and_eq_true]⟩

/-! ### Work on every title -/

/-- From the one state to the other every live record takes its own work and no other: the record that the work leaves,
or none where it is freed with its queue entries; the notices of the work join the set of its handle, and raise TITLE
ACTIVITY (05 R83, R92, R100). -/
structure State.Works (s t : State) (work : Title → Option Title × List Notice) : Prop where
  title : ∀ h, t.title h = (s.title h).bind fun r => (work r).1
  notice : ∀ h n, (t.noticeSet h).has n = true ↔
    (s.noticeSet h).has n = true ∨ ∃ r, s.title h = some r ∧ n ∈ (work r).2
  enables : t.cpr.enables = s.cpr.enables
  activity : t.cpr.events.has .titleActivity = true ↔
    s.cpr.events.has .titleActivity = true ∨
      (s.cpr.enables.has .titleActivity = true ∧ ∃ h r, s.title h = some r ∧ (work r).2 ≠ [])
  entries : t.aq.entries = s.aq.entries.filter fun e => (s.title e.handle).all fun r => (work r).1.isSome

/-- One work after another, on what the first leaves of the record. -/
def thenWork (first second : Title → Option Title × List Notice) (r : Title) : Option Title × List Notice :=
  match (first r).1 with
  | none => first r
  | some kept => ((second kept).1, (first r).2 ++ (second kept).2)

theorem thenWork_of_freed {first : Title → Option Title × List Notice} {r : Title} (freed : (first r).1 = none)
    (second : Title → Option Title × List Notice) : thenWork first second r = first r := by
  simp only [thenWork, freed]

theorem thenWork_of_kept {first : Title → Option Title × List Notice} {r kept : Title} (left : (first r).1 = some kept)
    (second : Title → Option Title × List Notice) :
    thenWork first second r = ((second kept).1, (first r).2 ++ (second kept).2) := by
  simp only [thenWork, left]

theorem State.Works.trans {s t u : State} {first second : Title → Option Title × List Notice} (a : s.Works t first)
    (b : t.Works u second) : s.Works u (thenWork first second) where
  title h := by
    rw [b.title, a.title, Option.bind_assoc]
    congr 1
    funext r
    cases left : (first r).1 with
    | none => rw [thenWork_of_freed left, left]; rfl
    | some kept => rw [thenWork_of_kept left]; rfl
  notice h n := by
    rw [b.notice, a.notice, a.title, or_assoc]
    refine or_congr_right ?_
    cases live : s.title h with
    | none => simp
    | some r =>
      cases left : (first r).1 with
      | none => simp [thenWork_of_freed left, left]
      | some kept => simp [thenWork_of_kept left, left]
  enables := b.enables.trans a.enables
  activity := by
    rw [b.activity, a.activity, a.enables, or_assoc, ← and_or_left]
    refine or_congr_right (and_congr_right fun _ => ?_)
    rw [← exists_or]
    refine exists_congr fun h => ?_
    rw [a.title]
    cases live : s.title h with
    | none => simp
    | some r =>
      cases left : (first r).1 with
      | none => simp [thenWork_of_freed left, left]
      | some kept => simp [thenWork_of_kept left, left, -not_and, not_and_or]
  entries := by
    rw [b.entries, a.entries, List.filter_filter]
    refine List.filter_congr fun e _ => ?_
    rw [a.title]
    cases live : s.title e.handle with
    | none => rfl
    | some r =>
      cases left : (first r).1 with
      | none => simp [thenWork_of_freed left, left]
      | some kept => simp [thenWork_of_kept left, left]

/-- The cue work marks the records and does no more to them (05 R99). -/
theorem State.cueWork_works {s : State} {edge : Fin 4 → Bool} (edges : ∀ n, s.handsEdge n (s.cuePin n) = edge n) :
    s.Works s.cueWork fun r => (some (r.markedBy edge), []) where
  title h := by
    rw [State.title_of_markAll s.cueWork_titles, funext edges]
    cases s.title h <;> rfl
  notice h n := by rw [State.noticeSet_congr s.cueWork_notices]; simp
  enables := s.cueWork_reports.enables
  activity := by rw [s.cueWork_reports.kept _ (by simp)]; simp
  entries := by
    rw [State.cueWork_aq]
    refine (List.filter_eq_self.mpr fun e _ => ?_).symm
    cases s.title e.handle <;> rfl

theorem State.title_some_handles {s : State} (places : s.titles.length = 24) {h : Nat} {r : Title}
    (live : s.title h = some r) : h ∈ handles := by
  have := State.title_some_bounds live
  rw [handles, List.mem_range'_1]
  omega

/-- The work of a field step on one record. -/
def stepWork (counter : BitVec 16) (r : Title) : Option Title × List Notice :=
  (remains (titleStep counter r), (titleStep counter r).2)

theorem State.fieldStep_works {s : State} {counter : BitVec 16} (titles : s.titles.length = 24)
    (notices : s.cpr.notices.length = 24) (reads : s.lle.fieldCounter = counter) :
    s.Works s.fieldStep (stepWork counter) := by
  have settled := State.fieldStep_settles (titles.trans notices.symm)
  rw [reads] at settled
  have inTable {h : Nat} (r : Title) (live : s.title h = some r) : h ∈ handles := State.title_some_handles titles live
  refine ⟨fun h => ?_, fun h n => ?_, settled.enables, ?_, ?_⟩
  · rw [settled.title]
    cases live : s.title h with
    | none => simp
    | some r => rw [if_pos (inTable r live)]; rfl
  · rw [settled.notice]
    refine or_congr_right ⟨fun ⟨_, found⟩ => found, fun ⟨r, live, raised⟩ => ⟨inTable r live, r, live, raised⟩⟩
  · rw [settled.activity]
    refine or_congr_right (and_congr_right fun _ => exists_congr fun h =>
      ⟨fun ⟨_, found⟩ => found, fun ⟨r, live, raised⟩ => ⟨inTable r live, r, live, raised⟩⟩)
  · rw [settled.entries]
    refine List.filter_congr fun e _ => ?_
    cases live : s.title e.handle with
    | none => simp
    | some r => simp [inTable r live, stepWork, remains_isSome]

/-! ### The work of a line start -/

/-- The work of a line start is a field step's before or after the marks of the cue edges, or the marks alone. -/
theorem State.lineWork_eq (s : State) (cues : CueLevels) (cueFirst : Bool) :
    s.lineWork cues cueFirst =
      let marks : Title → Option Title × List Notice := fun r => (some (r.markedBy (s.cueEdge cues)), [])
      if s.stepsField then
        if cueFirst then thenWork marks (stepWork s.counterAt) else thenWork (stepWork s.counterAt) marks
      else marks := by
  funext r
  have freed (w : TitleWork) : (.done ∈ w.2 ∧ w.1.autoRetire = true) = (retires w = true) :=
    propext (retires_iff w).symm
  cases step : s.stepsField with
  | false => simp [State.lineWork, step]
  | true =>
    cases cueFirst with
    | true =>
      simp only [State.lineWork, step, if_true, freed, thenWork, stepWork, remains, List.nil_append]
      split <;> rfl
    | false =>
      simp only [State.lineWork, step, if_true, freed, Bool.false_eq_true, if_false]
      cases retired : retires (titleStep s.counterAt r) with
      | true => rw [thenWork_of_freed (by rw [stepWork, remains, retired]; rfl)]; simp [stepWork, remains, retired]
      | false =>
        rw [thenWork_of_kept (kept := (titleStep s.counterAt r).1) (by rw [stepWork, remains, retired]; rfl)]
        simp [stepWork]

theorem State.builtLine_works {s : State} (titles : s.titles.length = 24) (notices : s.cpr.notices.length = 24)
    (cues : CueLevels) (cueFirst : Bool) :
    (s.builtLine cues).Works (s.lineStart cues cueFirst) (s.lineWork cues cueFirst) := by
  obtain ⟨built, -, -, -, -, noted, -⟩ := s.builtLine_blocks cues
  have places := s.committedAt_samePlaces
  have titles24 : (s.builtLine cues).titles.length = 24 := by rw [built, places.titles, titles]
  have notices24 : (s.builtLine cues).cpr.notices.length = 24 := by rw [noted, places.notices, notices]
  have counter := s.builtLine_fieldCounter cues
  have marked := State.cueWork_works (s.builtLine_handsEdge cues)
  rw [State.lineWork_eq, State.lineStart_cases]
  cases s.stepsField with
  | false => exact marked
  | true =>
    cases cueFirst with
    | true =>
      refine marked.trans (State.fieldStep_works ?_ ?_ ?_)
      · rw [State.cueWork_titles, markAll, List.length_map, titles24]
      · rw [State.cueWork_notices, notices24]
      · rw [(State.cueWork_core _).lle, counter]
    | false =>
      have stepped := State.fieldStep_works titles24 notices24 counter
      have core := (s.builtLine cues).fieldStep_core
      have edges := (State.fieldStep_settles (titles24.trans notices24.symm)).edges
      have handed (n : Fin 4) : (s.builtLine cues).fieldStep.handsEdge n ((s.builtLine cues).fieldStep.cuePin n) =
          s.cueEdge cues n := by
        rw [← State.builtLine_handsEdge, State.handsEdge, State.handsEdge, State.hasEdge_cuePin, State.hasEdge_cuePin,
          edges, core.lle, core.pins]
      simp only [if_true, Bool.false_eq_true, if_false]
      exact stepped.trans (State.cueWork_works handed)

/-- A line start keeps whether amendments are held. -/
theorem State.lineStart_held (s : State) (cues : CueLevels) (cueFirst : Bool) :
    (s.lineStart cues cueFirst).aq.held = s.committedAt.aq.held := by
  obtain ⟨-, aq, -⟩ := s.builtLine_blocks cues
  rw [State.lineStart_eq_builtLine, (State.stepAndCues_core _ _ _).held, aq]

/-- Settles O23: the work of the line start, read from the records, notices and entries as the commit leaves them. -/
theorem lineStartStepsAndMarksTheTitles : Obligations.LineStartStepsAndMarksTheTitles := by
  intro s t cues cueFirst run titles notices c work
  obtain rfl := exec_lineStart_next run
  have works := State.builtLine_works titles notices cues cueFirst
  have held := s.lineStart_held cues cueFirst
  obtain ⟨built, aq, -, -, -, noted, enables, activity⟩ := s.builtLine_blocks cues
  have title (h : Nat) : (s.builtLine cues).title h = c.title h := State.title_congr built h
  refine ⟨fun h => ?_, fun h n => ?_, ?_, ?_⟩
  · rw [works.title, title]
    cases c.title h <;> rfl
  · rw [works.notice, State.noticeSet_congr noted, title]
  · rw [works.activity, activity, enables]
    simp only [title]
    rfl
  · have entries := works.entries
    rw [aq] at entries
    simp only [title] at entries
    refine congrArg₂ AmendmentQueue.mk (entries.trans (List.filter_congr fun e _ => ?_)) held
    cases c.title e.handle <;> rfl

end Sys2Proof.Machine
end

section
/-! ## A pixel sample (03 R46, R48, 08 R142 to R144) -/

namespace Sys2Proof.Machine

open Sys2Proof

/-- The delay count runs while a CHS is awaited, and its last edge sets the CHS for the next cc (03 R46). -/
theorem SlaveTiming.countEdge_of_awaiting {g : SlaveTiming} (awaiting : g.awaiting = true) (now : Timestamp) :
    g.countEdge now =
      { g with
        delayCount := g.delayCount + 1
        chsAt := if g.delayCount + 1 = g.lineHdelay then some (now + 1) else g.chsAt } :=
  if_pos awaiting

theorem SlaveTiming.countEdge_of_idle {g : SlaveTiming} (idle : g.awaiting = false) (now : Timestamp) :
    g.countEdge now = g :=
  if_neg (by simp [idle])

/-- The deciding span in the words of 08 R142. -/
theorem deciding_eq (spans : List Span) (x : Nat) :
    deciding spans x = spans.find? fun sp => decide (sp.xl ≤ (x : Int) ∧ (x : Int) < sp.xr) := by
  simp only [deciding, Span.contains, Bool.decide_and]

/-- A sample before the first pixel or past the last is unkeyed (03 R48). -/
theorem State.keyNumbered_unnumbered {s : State} {k : Nat}
    (out : ¬(s.stg.lineCpixLat < k ∧ k - s.stg.lineCpixLat - 1 < s.stg.linePixTotal)) (index : BitVec 4) :
    s.keyNumbered k index = .clear := by
  unfold State.keyNumbered
  split
  · rfl
  · rename_i late
    exact if_neg fun early => out ⟨Nat.lt_of_not_le late, early⟩

/-- A numbered pixel is keyed by the keying list (03 R48, 08 R142). -/
theorem State.keyNumbered_numbered {s : State} {k : Nat} (late : s.stg.lineCpixLat < k)
    (early : k - s.stg.lineCpixLat - 1 < s.stg.linePixTotal) (index : BitVec 4) :
    s.keyNumbered k index = s.sbk.keyPixel (k - s.stg.lineCpixLat - 1) index := by
  rw [State.keyNumbered, if_neg (Nat.not_le.mpr late), if_pos early]

theorem SpanKeyer.keyPixel_uncovered {b : SpanKeyer} {x : Nat} (uncovered : deciding b.keying x = none) (index : BitVec 4) :
    b.keyPixel x index = .clear := by
  simp [SpanKeyer.keyPixel, uncovered]

theorem SpanKeyer.keyPixel_covered {b : SpanKeyer} {x : Nat} {sp : Span} (covered : deciding b.keying x = some sp)
    (index : BitVec 4) :
    b.keyPixel x index =
      if sp.keysOpaque index then .overlaid (sp.bank * 16 + index.toNat) (sp.level * b.keyingMaster / 63)
      else .clear := by
  simp [SpanKeyer.keyPixel, covered]

/-- Settles O28, by whether the sample is numbered, a span covers it, and the span keys it opaque. -/
theorem pixelSampleIsNumberedAndKeyed : Obligations.PixelSampleIsNumberedAndKeyed := by
  intro s index due k x stg after first numbered
  have taken {sample : KeyedSample} (keyed : s.keyNumbered k index = sample) :
      exec (.pixelSample index) s = .next (after sample) := by
    rw [exec_pixelSample, due, whenDue_true, ← keyed]
    cases awaiting : s.stg.awaiting with
    | true => simp only [State.takeSample, SlaveTiming.countEdge_of_awaiting awaiting, after, stg, if_pos awaiting]; rfl
    | false => simp [State.takeSample, SlaveTiming.countEdge_of_idle awaiting, after, stg, awaiting, k]
  have covering : deciding s.sbk.keying x = first := deciding_eq _ _
  refine ⟨fun out => taken (State.keyNumbered_unnumbered out index), fun ⟨late, early⟩ uncovered => taken ?_,
    fun sp ⟨late, early⟩ covered => ⟨fun clear => taken ?_, fun keyed => taken ?_⟩⟩
  all_goals rw [State.keyNumbered_numbered late early]
  · exact SpanKeyer.keyPixel_uncovered (covering.trans uncovered) index
  · rw [SpanKeyer.keyPixel_covered (covering.trans covered), clear]; rfl
  · rw [SpanKeyer.keyPixel_covered (covering.trans covered), if_pos keyed]

end Sys2Proof.Machine
end

section
/-! ## The slaving outputs PXCK, CHS, CVS and CFLD (03 R45, R46, R50, R51)

What each output is high or low by, and that every row but the CHS, its end, the line start
and the resets leaves all four. -/

namespace Sys2Proof.Machine

open Sys2Proof

/-! ### The four outputs by the state -/

theorem State.pxck_high_iff (s : State) : s.pxck = .high ↔ s.stg.edgeNow = true ∨ s.stg.edgeLast = true := by
  unfold State.pxck
  split <;> simp_all

theorem State.chsOut_low_iff (s : State) : s.chsOut = .low ↔ s.stg.chsLowUntil.isSome = true := by
  unfold State.chsOut
  split <;> simp_all

theorem State.cvsOut_low_iff (s : State) : s.cvsOut = .low ↔ s.stg.cvsLow = true := by
  simp [State.cvsOut]

theorem State.cfld_high_iff {s : State} (up : s.pins.resetLow = false) : s.cfld = .high ↔ s.sq.parity = .b := by
  cases parity : s.sq.parity <;> simp [State.cfld, up, parity]

/-! ### Steps that leave the four outputs -/

/-- From the one state to the other no slaving output changes. -/
structure State.SameOutputs (s t : State) : Prop where
  pxck : t.pxck = s.pxck
  chsOut : t.chsOut = s.chsOut
  cvsOut : t.cvsOut = s.cvsOut
  cfld : t.cfld = s.cfld

namespace State.SameOutputs

variable {s t u : State}

theorem refl (s : State) : s.SameOutputs s := ⟨rfl, rfl, rfl, rfl⟩

theorem trans (a : s.SameOutputs t) (b : t.SameOutputs u) : s.SameOutputs u :=
  ⟨b.pxck.trans a.pxck, b.chsOut.trans a.chsOut, b.cvsOut.trans a.cvsOut, b.cfld.trans a.cfld⟩

/-- The outputs are read from the STG, the parity and the level of RESET alone. -/
theorem of_blocks (stg : t.stg = s.stg) (parity : t.sq.parity = s.sq.parity)
    (resetLow : t.pins.resetLow = s.pins.resetLow) : s.SameOutputs t where
  pxck := by rw [State.pxck, State.pxck, stg]
  chsOut := by rw [State.chsOut, State.chsOut, stg]
  cvsOut := by rw [State.cvsOut, State.cvsOut, stg]
  cfld := by rw [State.cfld, State.cfld, parity, resetLow]

theorem of_access (access : s.Access t) : s.SameOutputs t := by
  rw [access.frame]
  exact of_blocks rfl rfl rfl

end State.SameOutputs

/-! ### The part's own events (01, 02, 03 R48) -/

theorem State.qualify_sameOutputs (s : State) : s.SameOutputs s.qualify := by
  rw [State.qualify_frame]
  exact .of_blocks rfl rfl rfl

theorem SyncQualifier.afterClass_parity (q : SyncQualifier) (c : PulseClass) :
    (q.afterClass c).parity = q.parity := by
  cases c with
  | broad =>
    simp only [SyncQualifier.afterClass, SyncQualifier.afterBroad]
    split <;> rfl
  | eq | hs | overlong => rfl

/-- A class reaches the LLE by its own state alone (02 R28). -/
theorem State.handClass_frame (s : State) (c : PulseClass) (t : Timestamp) :
    s.handClass c t = { s with lle := (s.handClass c t).lle } := by
  by_cases hs : c = .hs
  · rw [hs, State.handClass_hs]
  · rw [State.handClass_not_hs s t hs]

/-- A pulse leaves the STG, the parity and the pins, whatever its class (01 R6, R7). -/
theorem State.classify_blocks (s : State) (c : PulseClass) (next : PulseState) :
    (s.classify c next).stg = s.stg ∧ (s.classify c next).sq.parity = s.sq.parity ∧
      (s.classify c next).pins = s.pins := by
  unfold State.classify
  rw [State.handClass_frame]
  exact ⟨rfl, SyncQualifier.afterClass_parity _ c, rfl⟩

theorem SyncQualifier.afterGlitch_parity (q : SyncQualifier) : q.afterGlitch.parity = q.parity := by
  unfold SyncQualifier.afterGlitch
  split <;> rfl

theorem State.endPulse_blocks (s : State) :
    s.endPulse.stg = s.stg ∧ s.endPulse.sq.parity = s.sq.parity ∧ s.endPulse.pins = s.pins := by
  cases pulse : s.sq.pulseState with
  | waitHigh => rw [State.endPulse_of_waitHigh pulse]; exact ⟨rfl, rfl, rfl⟩
  | idle => simp only [State.endPulse, pulse, and_self]
  | overlong => rw [State.endPulse_of_overlong pulse]; exact ⟨rfl, rfl, rfl⟩
  | qualified => rw [State.endPulse_of_qualified pulse]; exact s.classify_blocks _ _
  | timing =>
    simp only [State.endPulse, pulse]
    split
    · exact ⟨rfl, s.sq.afterGlitch_parity, rfl⟩
    · obtain ⟨stg, parity, pins⟩ := s.qualify.classify_blocks (classOfWidth s.pulseWidth) .idle
      rw [stg, parity, pins, State.qualify_frame]
      exact ⟨rfl, rfl, rfl⟩

theorem State.missingLine_sameOutputs (s : State) : s.SameOutputs s.missingLine := by
  unfold State.missingLine
  dsimp only
  split
  case h_3 => split <;> exact .of_blocks rfl rfl rfl
  all_goals exact .of_blocks rfl rfl rfl

theorem SyncQualifier.afterRunExpiry_parity (q : SyncQualifier) : q.afterRunExpiry.parity = q.parity := by
  unfold SyncQualifier.afterRunExpiry
  split <;> rfl

theorem State.takeSample_sameOutputs (s : State) (index : BitVec 4) : s.SameOutputs (s.takeSample index) := by
  cases awaiting : s.stg.awaiting with
  | true => simp only [State.takeSample, SlaveTiming.countEdge_of_awaiting awaiting]; exact ⟨rfl, rfl, rfl, rfl⟩
  | false => simp only [State.takeSample, SlaveTiming.countEdge_of_idle awaiting]; exact ⟨rfl, rfl, rfl, rfl⟩

/-! ### The commands of the host: an amendment of the STG waits for a commit (07 R125, R127) -/

/-- A command that refuses or goes on, by a test. -/
theorem State.SameOutputs.ite {s : State} {p : Prop} [Decidable p] {a b : Performed} (yes : s.SameOutputs a.1)
    (no : s.SameOutputs b.1) : s.SameOutputs (if p then a else b).1 := by
  split
  · exact yes
  · exact no

theorem State.onTitle_sameOutputs {s : State} {h : Nat} {body : Title → Performed}
    (work : ∀ t, s.SameOutputs (body t).1) : s.SameOutputs (s.onTitle h body).1 := by
  unfold State.onTitle
  split
  · exact .refl s
  · exact work _

theorem State.settleTitle_sameOutputs (s : State) (h : Nat) (r : Title × List Notice) :
    s.SameOutputs (s.settleTitle h r) := by
  obtain ⟨sq, -, stg, -, -, -, pins, -⟩ := s.settleTitle_frame h r
  exact .of_blocks stg (by rw [sq]) (by rw [pins])

theorem State.sequence_sameOutputs (s : State) (h : Nat) (work : Title → Option TitleWork) :
    s.SameOutputs (s.sequence h work).1 := by
  refine State.onTitle_sameOutputs fun t => ?_
  split
  · exact .refl s
  · exact s.settleTitle_sameOutputs _ _

theorem State.freeAndForget_sameOutputs (s : State) (h : Nat) : s.SameOutputs (s.freeAndForget h) :=
  .of_blocks (by simp) (by simp) (by simp)

theorem State.stageEntry_sameOutputs (s : State) (given : Nat) (e : Entry) (param : Nat) :
    s.SameOutputs (s.stageEntry given e param).1 := by
  unfold State.stageEntry
  split <;> exact .of_blocks rfl rfl rfl

theorem doCreateTitle_sameOutputs (ps : List Byte) (s : State) : s.SameOutputs (doCreateTitle ps s).1 := by
  have created (h : Nat) (t : Title) : s.SameOutputs ((s.setTitle h (some t)).clearNotices h) :=
    .of_blocks (by simp) (by simp) (by simp)
  unfold doCreateTitle
  split
  · exact .refl s
  · split
    · exact .refl s
    · dsimp only
      split <;> exact created _ _

theorem doAmendTitle_sameOutputs (ps : List Byte) (s : State) : s.SameOutputs (doAmendTitle ps s).1 :=
  .ite (.refl s) (State.onTitle_sameOutputs fun _ => .ite (.refl s) (.ite (.refl s) (s.stageEntry_sameOutputs _ _ _)))

theorem doListTitles_sameOutputs (ps : List Byte) (s : State) : s.SameOutputs (doListTitles ps s).1 :=
  .ite (.refl s) (.refl s)

theorem doHitTest_sameOutputs (ps : List Byte) (s : State) : s.SameOutputs (doHitTest ps s).1 := by
  unfold doHitTest
  split <;> exact .refl s

theorem State.retireNow_sameOutputs (s : State) (h : Nat) : s.SameOutputs (s.retireNow h).1 :=
  State.onTitle_sameOutputs fun _ => s.freeAndForget_sameOutputs h

theorem State.retireGracefully_sameOutputs (s : State) (h : Nat) : s.SameOutputs (s.retireGracefully h).1 :=
  State.onTitle_sameOutputs fun _ => .ite (s.freeAndForget_sameOutputs h) (s.settleTitle_sameOutputs _ _)

theorem doRetireTitle_sameOutputs (ps : List Byte) (s : State) : s.SameOutputs (doRetireTitle ps s).1 := by
  unfold doRetireTitle
  split
  · exact s.retireNow_sameOutputs _
  · exact s.retireGracefully_sameOutputs _
  · exact .refl s

theorem doHalt_sameOutputs (ps : List Byte) (s : State) : s.SameOutputs (doHalt ps s).1 := by
  unfold doHalt
  split
  · exact s.sequence_sameOutputs _ _
  · exact s.sequence_sameOutputs _ _
  · exact .refl s

theorem State.cutTitles_sameOutputs (s : State) : s.SameOutputs s.cutTitles := by
  unfold State.cutTitles
  generalize handles = hs
  induction hs generalizing s with
  | nil => exact .refl s
  | cons h rest ih =>
    refine State.SameOutputs.trans ?_ (ih _)
    dsimp only
    split
    · exact .refl s
    · split
      · exact s.settleTitle_sameOutputs _ _
      · exact .refl s

theorem doCutAll_sameOutputs (s : State) : s.SameOutputs (doCutAll s).1 := by
  dsimp only [doCutAll]
  exact s.cutTitles_sameOutputs

theorem doSetTiming_sameOutputs (ps : List Byte) (s : State) : s.SameOutputs (doSetTiming ps s).1 :=
  .ite (.refl s) (s.stageEntry_sameOutputs _ _ _)

theorem doDiscardPending_sameOutputs (ps : List Byte) (s : State) : s.SameOutputs (doDiscardPending ps s).1 :=
  .ite (.refl s) (.of_blocks rfl rfl rfl)

/-- Of a setting written, STANDARD alone reaches the SQ, and it leaves the parity (01 R16). -/
theorem State.writeSetting_parity (s : State) (item value : Nat) :
    (s.writeSetting item value).sq.parity = s.sq.parity := by
  by_cases standard : item = 1
  · subst standard
    simp only [State.writeSetting, State.writeStandard]
    split
    · rfl
    · split <;> rfl
  · rw [State.writeSetting_sq standard]

theorem State.writeSetting_sameOutputs (s : State) (item value : Nat) : s.SameOutputs (s.writeSetting item value) := by
  have parity := s.writeSetting_parity item value
  rw [State.writeSetting_frame] at parity ⊢
  exact .of_blocks rfl parity rfl

theorem doSetMode_sameOutputs (ps : List Byte) (s : State) : s.SameOutputs (doSetMode ps s).1 :=
  .ite (.refl s) (.ite (.refl s) (.ite (.refl s) (s.writeSetting_sameOutputs _ _)))

theorem doReportMode_sameOutputs (ps : List Byte) (s : State) : s.SameOutputs (doReportMode ps s).1 :=
  .ite (.refl s) (.refl s)

theorem doSetEvents_sameOutputs (ps : List Byte) (s : State) : s.SameOutputs (doSetEvents ps s).1 :=
  .ite (.refl s) (.of_blocks rfl rfl rfl)

theorem doEnterStandby_sameOutputs (s : State) : s.SameOutputs (doEnterStandby s).1 :=
  .ite (.refl s) (.of_blocks rfl rfl rfl)

theorem doLeaveStandby_sameOutputs (s : State) : s.SameOutputs (doLeaveStandby s).1 :=
  .ite (.of_blocks rfl rfl rfl) (.refl s)

theorem doSetCueLine_sameOutputs (ps : List Byte) (s : State) : s.SameOutputs (doSetCueLine ps s).1 := by
  unfold doSetCueLine
  split
  · exact .refl s
  · split
    · exact .of_blocks rfl rfl rfl
    · exact State.onTitle_sameOutputs fun _ => .of_blocks rfl rfl rfl
    · exact .refl s

theorem performWith_sameOutputs (code : Byte) {body : State → Performed} {s : State}
    (work : s.SameOutputs (body s).1) : s.SameOutputs (performWith code body s) := by
  unfold performWith
  split
  · exact .of_blocks rfl rfl rfl
  · exact work.trans (.of_blocks rfl rfl rfl)

/-- No performed command changes an output. -/
theorem perform_sameOutputs (c : Command) (ps : List Byte) (s : State) : s.SameOutputs (perform c ps s) := by
  cases c with
  | createTitle => exact performWith_sameOutputs _ (doCreateTitle_sameOutputs ps s)
  | amendTitle => exact performWith_sameOutputs _ (doAmendTitle_sameOutputs ps s)
  | queryTitle => exact performWith_sameOutputs _ (State.onTitle_sameOutputs fun _ => .refl s)
  | listTitles => exact performWith_sameOutputs _ (doListTitles_sameOutputs ps s)
  | hitTest => exact performWith_sameOutputs _ (doHitTest_sameOutputs ps s)
  | retireTitle => exact performWith_sameOutputs _ (doRetireTitle_sameOutputs ps s)
  | halt => exact performWith_sameOutputs _ (doHalt_sameOutputs ps s)
  | arm | disarm | start | leave | resume | rearm =>
    exact performWith_sameOutputs (body := fun s => s.sequence _ _) _ (s.sequence_sameOutputs _ _)
  | cutAll => exact performWith_sameOutputs _ (doCutAll_sameOutputs s)
  | setTiming => exact performWith_sameOutputs _ (doSetTiming_sameOutputs ps s)
  | discardPending => exact performWith_sameOutputs _ (doDiscardPending_sameOutputs ps s)
  | setMode => exact performWith_sameOutputs _ (doSetMode_sameOutputs ps s)
  | reportMode => exact performWith_sameOutputs _ (doReportMode_sameOutputs ps s)
  | setEvents => exact performWith_sameOutputs _ (doSetEvents_sameOutputs ps s)
  | enterStandby => exact performWith_sameOutputs _ (doEnterStandby_sameOutputs s)
  | leaveStandby => exact performWith_sameOutputs _ (doLeaveStandby_sameOutputs s)
  | setCueLine => exact performWith_sameOutputs _ (doSetCueLine_sameOutputs ps s)
  | resetTitles => exact performWith_sameOutputs (body := doResetTitles) _ (.of_blocks rfl rfl rfl)
  | holdAmendments | applyAmendments =>
    exact performWith_sameOutputs (body := fun s => s.setHeld _) _ (.of_blocks rfl rfl rfl)
  | queryPending => exact performWith_sameOutputs (body := doQueryPending) _ (.refl s)
  | reportCueLines => exact performWith_sameOutputs (body := doReportCueLines) _ (.refl s)
  | readEvents => exact performWith_sameOutputs (body := doReadEvents) _ (.of_blocks rfl rfl rfl)
  | readNotices => exact performWith_sameOutputs (body := doReadNotices) _ (.of_blocks rfl rfl rfl)
  | reportCondition => exact .of_blocks rfl rfl rfl
  | reportLock =>
    unfold perform
    dsimp only
    split <;> exact .of_blocks rfl rfl rfl

/-! ### The accesses of the host (11 R172 to R175) -/

theorem State.writeCommand_sameOutputs (s : State) (code : Byte) : s.SameOutputs (s.writeCommand code) := by
  have opened : s.SameOutputs s.openCommand := .of_access s.openCommand_access
  unfold State.writeCommand
  split
  · exact .refl s
  · split
    · exact opened.trans (performWith_sameOutputs _ (.refl _))
    · split
      · exact opened.trans (perform_sameOutputs _ _ _)
      · exact .of_blocks rfl rfl rfl

theorem State.writeParameter_sameOutputs (s : State) (b : Byte) : s.SameOutputs (s.writeParameter b) := by
  unfold State.writeParameter
  split
  · exact .refl s
  · split
    · exact .of_access s.portFault_access
    · split
      · exact (State.SameOutputs.of_access s.endCollection_access).trans (perform_sameOutputs _ _ _)
      · exact .of_blocks rfl rfl rfl

/-- The row of a last byte leaves the outputs where its body does. -/
theorem State.lastByte_sameOutputs (s : State) (c : Command) (b : Byte) {body : List Byte → State → State}
    (work : ∀ ps (s : State), s.SameOutputs (body ps s)) : s.SameOutputs (s.lastByte c b body) := by
  obtain eq | eq | ⟨ps, -, eq⟩ := s.lastByte_cases c b body <;> rw [eq]
  · exact .refl s
  · exact s.writeParameter_sameOutputs b
  · exact (State.SameOutputs.of_access s.endCollection_access).trans (work _ _)

theorem State.commandRow_sameOutputs (s : State) (c : Command) : s.SameOutputs (s.commandRow (perform c [])) := by
  unfold State.commandRow
  split
  · exact .refl s
  · exact (State.SameOutputs.of_access s.openCommand_access).trans (perform_sameOutputs c [] _)

theorem State.readAccess_sameOutputs (s : State) (byte : Byte) {after : State} (work : s.SameOutputs after) :
    s.SameOutputs (s.readAccess byte after) := by
  unfold State.readAccess
  split
  · exact .of_blocks rfl rfl rfl
  · exact work.trans (.of_blocks rfl rfl rfl)

theorem State.readResult_sameOutputs (s : State) : s.SameOutputs s.readResult := by
  unfold State.readResult
  split <;> exact s.readAccess_sameOutputs _ (.of_blocks rfl rfl rfl)

theorem State.writePaletteAddress_sameOutputs (s : State) (b : Byte) : s.SameOutputs (s.writePaletteAddress b) := by
  unfold State.writePaletteAddress
  split <;> exact .of_blocks rfl rfl rfl

theorem State.writePaletteData_sameOutputs (s : State) (b : Byte) : s.SameOutputs (s.writePaletteData b) := by
  unfold State.writePaletteData
  split
  · exact .refl s
  · split <;> exact .of_blocks rfl rfl rfl

theorem State.readPaletteData_sameOutputs (s : State) : s.SameOutputs s.readPaletteData := by
  unfold State.readPaletteData
  split <;> exact s.readAccess_sameOutputs _ (.of_blocks rfl rfl rfl)

/-! ### Every row that drives no output -/

/-- The rows that leave the outputs: all but a CHS, its end, a line start, power-on and the two of a pin reset. -/
def leavesOutputs (c : Instr) : Prop :=
  match c with
  | .chs => False
  | .chsPulseEnd => False
  | .lineStart _ _ => False
  | .powerOn _ => False
  | .pinReset => False
  | .pinResetStart => False
  | _ => True

theorem State.SameOutputs.of_next {s t u : State} (run : (.next u : Host.Outcome State Fault Refusal) = .next t)
    (same : s.SameOutputs u) : s.SameOutputs t := by
  cases run
  exact same

theorem State.SameOutputs.of_whenDue {s t u : State} {due : Bool} (run : whenDue due u = .next t)
    (same : s.SameOutputs u) : s.SameOutputs t := by
  obtain ⟨-, rfl⟩ := whenDue_eq_next_iff.mp run
  exact same

theorem execCsyncFallingEdge_sameOutputs {s t : State} (run : execCsyncFallingEdge s = .next t) :
    s.SameOutputs t := by
  unfold execCsyncFallingEdge at run
  split at run
  · cases run
  · split at run
    · exact .of_next run (.of_blocks rfl rfl rfl)
    · split at run
      · exact .of_next run (.of_blocks rfl rfl rfl)
      · cases run

theorem execCsyncRisingEdge_sameOutputs {s t : State} (run : execCsyncRisingEdge s = .next t) : s.SameOutputs t := by
  unfold execCsyncRisingEdge at run
  split at run
  · cases run
  · split at run
    · exact .of_next run (.of_blocks rfl rfl rfl)
    · split at run
      · cases run
      · obtain ⟨stg, parity, -⟩ := s.endPulse_blocks
        exact .of_next run (.of_blocks stg parity rfl)

/-- What each such row writes is no block that an output is read from, or leaves what it is read from. -/
theorem exec_sameOutputs {c : Instr} {s t : State} (run : exec c s = .next t) (leaves : leavesOutputs c) :
    s.SameOutputs t := by
  cases c with
  | chs | chsPulseEnd | lineStart | powerOn | pinReset | pinResetStart => exact leaves.elim
  | csyncFallingEdge => exact execCsyncFallingEdge_sameOutputs run
  | csyncRisingEdge => exact execCsyncRisingEdge_sameOutputs run
  | qualificationExpiry => exact .of_whenDue run s.qualify_sameOutputs
  | overlongExpiry =>
    obtain ⟨stg, parity, pins⟩ := s.classify_blocks .overlong .overlong
    exact .of_whenDue run (.of_blocks stg parity (by rw [pins]))
  | runExpiry => exact .of_whenDue run (.of_blocks rfl s.sq.afterRunExpiry_parity rfl)
  | gateOpen | freeLineDecision => exact .of_whenDue run (.of_blocks rfl rfl rfl)
  | gateDecisionExpiry => exact .of_whenDue run s.missingLine_sameOutputs
  | pixelSample index => exact .of_whenDue run (s.takeSample_sameOutputs index)
  | createTitle b => exact .of_next run (s.lastByte_sameOutputs _ b (perform_sameOutputs .createTitle))
  | amendTitle b => exact .of_next run (s.lastByte_sameOutputs _ b (perform_sameOutputs .amendTitle))
  | queryTitle b => exact .of_next run (s.lastByte_sameOutputs _ b (perform_sameOutputs .queryTitle))
  | listTitles b => exact .of_next run (s.lastByte_sameOutputs _ b (perform_sameOutputs .listTitles))
  | hitTest b => exact .of_next run (s.lastByte_sameOutputs _ b (perform_sameOutputs .hitTest))
  | retireTitleImmediate =>
    exact .of_next run
      (s.lastByte_sameOutputs _ 0 fun _ s => performWith_sameOutputs _ (s.retireNow_sameOutputs _))
  | retireTitleGraceful =>
    exact .of_next run
      (s.lastByte_sameOutputs _ 1 fun _ s => performWith_sameOutputs _ (s.retireGracefully_sameOutputs _))
  | haltImmediate | haltDecelerated =>
    exact .of_next run
      (s.lastByte_sameOutputs _ _ fun _ s => performWith_sameOutputs _ (s.sequence_sameOutputs _ _))
  | arm b => exact .of_next run (s.lastByte_sameOutputs _ b (perform_sameOutputs .arm))
  | disarm b => exact .of_next run (s.lastByte_sameOutputs _ b (perform_sameOutputs .disarm))
  | start b => exact .of_next run (s.lastByte_sameOutputs _ b (perform_sameOutputs .start))
  | leave b => exact .of_next run (s.lastByte_sameOutputs _ b (perform_sameOutputs .leave))
  | resume b => exact .of_next run (s.lastByte_sameOutputs _ b (perform_sameOutputs .resume))
  | rearm b => exact .of_next run (s.lastByte_sameOutputs _ b (perform_sameOutputs .rearm))
  | setTiming b => exact .of_next run (s.lastByte_sameOutputs _ b (perform_sameOutputs .setTiming))
  | discardPending b => exact .of_next run (s.lastByte_sameOutputs _ b (perform_sameOutputs .discardPending))
  | setMode b => exact .of_next run (s.lastByte_sameOutputs _ b (perform_sameOutputs .setMode))
  | reportMode b => exact .of_next run (s.lastByte_sameOutputs _ b (perform_sameOutputs .reportMode))
  | setEvents b => exact .of_next run (s.lastByte_sameOutputs _ b (perform_sameOutputs .setEvents))
  | setCueLine b => exact .of_next run (s.lastByte_sameOutputs _ b (perform_sameOutputs .setCueLine))
  | reportCondition b => exact .of_next run (s.lastByte_sameOutputs _ b (perform_sameOutputs .reportCondition))
  | resetTitles => exact .of_next run (s.commandRow_sameOutputs .resetTitles)
  | cutAll => exact .of_next run (s.commandRow_sameOutputs .cutAll)
  | holdAmendments => exact .of_next run (s.commandRow_sameOutputs .holdAmendments)
  | applyAmendments => exact .of_next run (s.commandRow_sameOutputs .applyAmendments)
  | queryPending => exact .of_next run (s.commandRow_sameOutputs .queryPending)
  | enterStandby => exact .of_next run (s.commandRow_sameOutputs .enterStandby)
  | leaveStandby => exact .of_next run (s.commandRow_sameOutputs .leaveStandby)
  | reportCueLines => exact .of_next run (s.commandRow_sameOutputs .reportCueLines)
  | reportLock => exact .of_next run (s.commandRow_sameOutputs .reportLock)
  | readEvents => exact .of_next run (s.commandRow_sameOutputs .readEvents)
  | readNotices => exact .of_next run (s.commandRow_sameOutputs .readNotices)
  | unknownCommand b | commandByteWrite b => exact .of_next run (s.writeCommand_sameOutputs b)
  | strayParameterByte b | parameterByteWrite b => exact .of_next run (s.writeParameter_sameOutputs b)
  | resultRead => exact .of_next run s.readResult_sameOutputs
  | statusRead => exact .of_next run (s.readAccess_sameOutputs _ (.of_blocks rfl rfl rfl))
  | paletteAddressRead => exact .of_next run (s.readAccess_sameOutputs 0 (.of_access s.portFault_access))
  | paletteAddressWrite b => exact .of_next run (s.writePaletteAddress_sameOutputs b)
  | paletteDataWrite b => exact .of_next run (s.writePaletteData_sameOutputs b)
  | paletteDataRead => exact .of_next run s.readPaletteData_sameOutputs

/-! ### The outputs under a tick (03 R45) -/

/-- The carry of an advance is the PXCK rising edge of its cc (03 R45). -/
theorem State.tick_edgeNow_iff {s : State} (up : s.pins.resetLow = false) :
    s.tick.stg.edgeNow = true ↔ 2 ^ 32 ≤ s.stg.accumulator.toNat + s.stg.increment.toNat := by
  rw [State.tick_of_up up]
  exact decide_eq_true_iff

/-- PXCK is high for the cc of a carry and the cc that follows it (03 R45). -/
theorem State.tick_pxck_high_iff {s : State} (up : s.pins.resetLow = false) :
    s.tick.pxck = .high ↔ 2 ^ 32 ≤ s.stg.accumulator.toNat + s.stg.increment.toNat ∨ s.stg.edgeNow = true := by
  rw [State.pxck_high_iff, State.tick_edgeNow_iff up, State.tick_of_up up]
  rfl

/-- A cc moves no output but PXCK. -/
theorem State.tick_outputs (s : State) :
    s.tick.chsOut = s.chsOut ∧ s.tick.cvsOut = s.cvsOut ∧ s.tick.cfld = s.cfld :=
  ⟨by simp [State.chsOut], by simp [State.cvsOut], by simp [State.cfld]⟩

/-! ### A CHS and the end of its pulse (03 R46, R50, 08 R141) -/

/-- A CHS that completes was due, with RESET high. -/
theorem exec_chs_eq_next {s t : State} (run : exec .chs s = .next t) :
    s.pins.resetLow = false ∧ t = s.emitChs s.lle.y s.stg.vdelay := by
  rw [exec_chs, whenDue_eq_next_iff] at run
  obtain ⟨due, rfl⟩ := run
  exact ⟨(s.chsDue_iff.mp due).1, rfl⟩

/-- The end of a pulse 64 cc long is reached at its last cc and at none before (03 R46). -/
theorem reached_of_le_64 (now : Timestamp) {n : Nat} (le : n ≤ 64) :
    reached (now + BitVec.ofNat 24 n) (now + 64) = true ↔ n = 64 := by
  rw [reached_iff]
  bv_omega

/-- For 64 cc a CHS is low, and its pulse end falls due at the last of them (03 R46). -/
theorem State.emitChs_pulse {s : State} (up : s.pins.resetLow = false) (line vdelay : Nat) {n : Nat} (le : n ≤ 64) :
    (State.tick^[n] (s.emitChs line vdelay)).chsOut = .low ∧
      ((State.tick^[n] (s.emitChs line vdelay)).chsPulseEndDue = true ↔ n = 64) := by
  obtain ⟨pins, until_, counter⟩ := (s.emitChs line vdelay).tick_iterate n
  have low : (State.tick^[n] (s.emitChs line vdelay)).stg.chsLowUntil = some (s.sq.counter + 64) := by
    rw [until_]; simp
  rw [State.chsOut_low_iff, State.chsPulseEndDue_iff, low, pins, counter]
  simp only [Option.isSome_some, State.emitChs_pins, State.emitChs_sq, up, true_and, Option.some.injEq, exists_eq_left',
    reached_of_le_64 _ le]

theorem State.emitChs_cvsOut_low_iff (s : State) (line vdelay : Nat) :
    (s.emitChs line vdelay).cvsOut = .low ↔ s.stg.cvsDone = false ∧ 2 + vdelay ≤ line := by
  simp [State.cvsOut_low_iff, SlaveTiming.startsCvs]

/-- PXCK at a CHS and one cc later: it makes no carry of its own cc (03 R46). -/
theorem State.emitChs_pxck {s : State} (up : s.pins.resetLow = false) (line vdelay : Nat) :
    ((s.emitChs line vdelay).pxck = .high ↔ s.stg.edgeLast = true) ∧
      ((s.emitChs line vdelay).tick.pxck = .high ↔
        2 ^ 32 ≤ (s.emitChs line vdelay).stg.accumulator.toNat + (s.emitChs line vdelay).stg.increment.toNat) := by
  have still : (s.emitChs line vdelay).stg.edgeNow = false := by simp
  constructor
  · rw [State.pxck_high_iff, still]; simp
  · rw [State.tick_pxck_high_iff (by simpa using up), still]; simp

/-! ### A line start that finds no CHS awaited (03 R47) -/

/-- The commit writes the STG's device items alone, and the line begun leaves the edges, the CHS pulse and CVS. -/
theorem State.lineStart_outputs {s : State} (idle : s.stg.awaiting = false) (cues : CueLevels) (cueFirst : Bool) :
    (s.lineStart cues cueFirst).pxck = s.pxck ∧ (s.lineStart cues cueFirst).chsOut = s.chsOut ∧
      (s.lineStart cues cueFirst).cvsOut = s.cvsOut := by
  have onTime : s.chsLate = false := by simp [State.chsLate, idle]
  have stg := (s.lineStart_stg cues cueFirst).trans (s.settledLine_beginLine_stg cues)
  rw [State.settledLine_stg, onTime, s.committedAt_stg] at stg
  simp [State.pxck, State.chsOut, State.cvsOut, stg]

/-- Settles O31: the two rows by what they write, and the outputs by the state that each is read from. -/
theorem chsLoadsTheLineAndOutputsFollowTheirRules : Obligations.ChsLoadsTheLineAndOutputsFollowTheirRules := by
  intro s
  refine ⟨fun due => ?chs, fun due => ?chsPulseEnd, fun up => ?carries, fun t run => ?pulse, fun t run => ?ended,
    s.tick_outputs, fun t cues cueFirst run idle => ?lineStart, fun c t run leaves => ?others⟩
  case chs =>
    rw [exec_chs, due, whenDue_true]
    unfold State.emitChs SpanKeyer.takeWaiting
    exact ⟨fun idle => by rw [idle]; rfl, fun spans waits => by rw [waits]; rfl⟩
  case chsPulseEnd => rw [exec_chsPulseEnd, due, whenDue_true]
  case carries =>
    refine ⟨State.cfld_high_iff up, ?_, fun t run => ?_⟩
    · rw [State.tick_pxck_high_iff (by simpa using up), State.tick_edgeNow_iff up, or_comm]
    · obtain ⟨-, rfl⟩ := exec_chs_eq_next run
      exact State.emitChs_pxck up _ _
  case pulse =>
    obtain ⟨up, rfl⟩ := exec_chs_eq_next run
    exact ⟨fun n le => State.emitChs_pulse up _ _ le, s.emitChs_cvsOut_low_iff _ _⟩
  case ended =>
    rw [exec_chsPulseEnd, whenDue_eq_next_iff] at run
    obtain ⟨-, rfl⟩ := run
    exact ⟨rfl, rfl, rfl, rfl⟩
  case lineStart =>
    rw [exec_lineStart, whenDue_eq_next_iff] at run
    obtain ⟨-, rfl⟩ := run
    exact State.lineStart_outputs idle cues cueFirst
  case others =>
    have same : s.SameOutputs t := exec_sameOutputs run leaves
    exact ⟨same.pxck, same.chsOut, same.cvsOut, same.cfld⟩

end Sys2Proof.Machine
end

section
/-! ## What a step can do to the records, the events and the notices (04 R57, 06 R107, 11 R182 to R184)

One relation holds what a step can do to the title table, the enables, the pending events and the notice store. Every
row is shown to be made of its moves once; an invariant over these items is then one case for each move. -/

namespace Sys2Proof.Machine

open Sys2Proof

/-- The travel of a title lies within its course (06 R107). -/
def Title.WithinCourse (t : Title) : Prop :=
  t.travel ≤ t.motion.course

/-- What is done to the title table, the enables, the pending events and the notice store: nothing, a table of the same
handles whose records are within their courses where the old ones are, an event, a notice of a handle of the table, notices
forgotten, SET EVENTS, READ EVENTS, a reset, and one of these after another. -/
inductive State.Moves : State → State → Prop
  | frame {s t : State} (titles : t.titles = s.titles) (notices : t.cpr.notices = s.cpr.notices)
      (enables : t.cpr.enables = s.cpr.enables) (events : t.cpr.events = s.cpr.events) : Moves s t
  | table {s : State} (titles : List (Option Title)) (places : titles.length = s.titles.length)
      (within : s.TravelWithinCourse → ∀ t, some t ∈ titles → t.WithinCourse) : Moves s { s with titles := titles }
  | raise {s : State} (k : EventKind) (other : k ≠ .titleActivity) : Moves s (s.raise k)
  | notify {s : State} {h : Nat} (pos : 0 < h) (le : h ≤ s.titles.length) (n : Notice) : Moves s (s.notify h n)
  | clearNotices {s : State} (h : Nat) : Moves s (s.clearNotices h)
  | clearAllNotices {s : State} : Moves s s.clearAllNotices
  | setEvents {s : State} (set : EventSet) :
      Moves s { s with cpr := { s.cpr with enables := set, events := s.cpr.events &&& set } }
  | readEvents {s : State} : Moves s { s with cpr := { s.cpr with events := s.eventsLeft } }
  | restarted {s : State} (csync : Level) (entries : List Colour) (attention : Attention) :
      Moves s (s.restarted csync entries attention)
  | trans {s t u : State} (first : Moves s t) (second : Moves t u) : Moves s u

/-! ### The travel stays within the course through every move -/

theorem State.Moves.keepsTravel {s t : State} (moves : s.Moves t) (within : s.TravelWithinCourse) :
    t.TravelWithinCourse := by
  induction moves with
  | frame titles => intro t live; exact within t (titles ▸ live)
  | table titles places still => exact still within
  | raise k => exact within
  | notify pos le n => intro t live; exact within t (by simpa using live)
  | clearNotices h => intro t live; exact within t (by simpa using live)
  | clearAllNotices => exact within
  | setEvents set => exact within
  | readEvents => exact within
  | restarted => intro t live; exact absurd (List.eq_of_mem_replicate live) (by simp)
  | trans _ _ first second => exact second (first within)

/-! ### The events stay admitted through every move -/

theorem NoticeSet.isEmpty_add (x : NoticeSet) (n : Notice) : (x.add n).isEmpty = false := by
  cases n <;> simp [NoticeSet.add, NoticeSet.isEmpty, NoticeSet.empty]

/-- A notice of a handle of the store is held by it. -/
theorem State.notify_noNotices {s : State} {h : Nat} (pos : 0 < h) (le : h ≤ s.cpr.notices.length) (n : Notice) :
    (s.notify h n).noNotices = false := by
  have member : (s.noticeSet h).add n ∈ (s.notify h n).cpr.notices := by
    rw [State.notify_notices, if_neg (by omega)]
    exact List.mem_set (by omega) _
  rw [State.noNotices, List.all_eq_false]
  exact ⟨_, member, by simp [NoticeSet.isEmpty_add]⟩

theorem State.notify_has (s : State) (h : Nat) (n : Notice) (k : EventKind) :
    (s.notify h n).cpr.events.has k =
      (s.cpr.events.has k || (decide (k = .titleActivity) && s.cpr.enables.has .titleActivity)) := by
  have port := State.setNotices_reports (fun _ => False) s h ((s.noticeSet h).add n)
  rw [State.notify_eq, State.raise_has, port.kept _ id, port.enables]

theorem EventSet.has_and (a b : EventSet) (k : EventKind) : EventSet.has (a &&& b) k = (a.has k && b.has k) :=
  BitVec.getLsbD_and

/-- TITLE ACTIVITY leaves the pending set where the store is empty, and no other kind does (11 R184). -/
theorem State.settleActivity_has (s : State) (k : EventKind) :
    s.settleActivity.cpr.events.has k = (s.cpr.events.has k && !(decide (k = .titleActivity) && s.noNotices)) := by
  unfold State.settleActivity
  cases s.noNotices with
  | false => simp
  | true =>
    by_cases same : k = .titleActivity
    · subst same; simp [EventSet.has_without_same]
    · simp [EventSet.has_without_other _ same, same]

theorem State.settleActivity_notices (s : State) : s.settleActivity.cpr.notices = s.cpr.notices := by
  unfold State.settleActivity
  split <;> rfl

theorem State.settleActivity_enables (s : State) : s.settleActivity.cpr.enables = s.cpr.enables := by
  unfold State.settleActivity
  split <;> rfl

theorem State.setNotices_notices_length (s : State) (h : Nat) (x : NoticeSet) :
    (s.setNotices h x).cpr.notices.length = s.cpr.notices.length := by
  unfold State.setNotices
  split <;> simp

theorem State.clearNotices_has (s : State) (h : Nat) (k : EventKind) :
    (s.clearNotices h).cpr.events.has k =
      (s.cpr.events.has k && !(decide (k = .titleActivity) && (s.clearNotices h).noNotices)) := by
  have port := State.setNotices_reports (fun _ => False) s h NoticeSet.empty
  have same : (s.clearNotices h).noNotices = (s.setNotices h NoticeSet.empty).noNotices :=
    congrArg (List.all · NoticeSet.isEmpty) (State.settleActivity_notices _)
  rw [State.clearNotices, State.settleActivity_has, port.kept _ id, ← State.clearNotices, same]

theorem State.clearNotices_enables (s : State) (h : Nat) : (s.clearNotices h).cpr.enables = s.cpr.enables :=
  (State.settleActivity_enables _).trans (State.setNotices_reports (fun _ => False) s h _).enables

theorem State.clearNotices_notices_length (s : State) (h : Nat) :
    (s.clearNotices h).cpr.notices.length = s.cpr.notices.length := by
  rw [State.clearNotices, State.settleActivity_notices, State.setNotices_notices_length]

/-- READ EVENTS leaves TITLE ACTIVITY pending while the store holds a notice, and nothing else (11 R183). -/
theorem State.eventsLeft_has (s : State) (k : EventKind) :
    s.eventsLeft.has k = (!s.noNotices && s.cpr.events.has k && decide (k = .titleActivity)) := by
  unfold State.eventsLeft
  cases s.noNotices with
  | true => simpa using EventSet.has_zero k
  | false =>
    by_cases same : k = .titleActivity
    · subst same; simp [EventSet.has, EventKind.bit]
    · have ne : ¬EventKind.titleActivity.bit = k.bit := fun bits => same (EventKind.bit_injective bits.symm)
      simp [EventSet.has, BitVec.getLsbD_twoPow, ne, same]

theorem EventSet.has_of_has_without {e : EventSet} {j k : EventKind} (has : (e.without j).has k = true) :
    e.has k = true := by
  by_cases same : k = j
  · subst same; rw [EventSet.has_without_same] at has; cases has
  · rwa [EventSet.has_without_other _ same] at has

theorem State.Moves.keepsAdmitted {s t : State} (moves : s.Moves t) (admitted : s.EventsAdmitted) :
    t.EventsAdmitted := by
  induction moves with
  | frame titles notices enables events =>
    obtain ⟨records, sets, enabled, backed⟩ := admitted
    refine ⟨titles ▸ records, notices ▸ sets, by rwa [enables, events], ?_⟩
    rwa [State.noNotices, notices, events]
  | table titles places => exact ⟨places ▸ admitted.titles, admitted.notices, admitted.enabled, admitted.backed⟩
  | @raise s k other =>
    refine ⟨admitted.titles, admitted.notices, fun j has => ?_, fun empty => ?_⟩
    · rw [State.raise_has, Bool.or_eq_true, Bool.and_eq_true, decide_eq_true_iff] at has
      obtain old | ⟨rfl, enabled⟩ := has
      · exact admitted.enabled j old
      · exact enabled
    · rw [State.raise_has, admitted.backed empty]
      simp [other.symm]
  | @notify s h pos le n =>
    have held : h ≤ s.cpr.notices.length := by rw [admitted.notices, ← admitted.titles]; exact le
    refine ⟨by simpa using admitted.titles, by simpa using admitted.notices, fun j has => ?_, fun empty => ?_⟩
    · rw [State.notify_has, Bool.or_eq_true, Bool.and_eq_true, decide_eq_true_iff] at has
      rw [State.notify_enables]
      obtain old | ⟨rfl, enabled⟩ := has
      · exact admitted.enabled j old
      · exact enabled
    · rw [State.notify_noNotices pos held] at empty; cases empty
  | @clearNotices s h =>
    refine ⟨by simpa using admitted.titles, by rw [State.clearNotices_notices_length, admitted.notices],
      fun j has => ?_, fun empty => ?_⟩
    · rw [State.clearNotices_has, Bool.and_eq_true] at has
      rw [State.clearNotices_enables]
      exact admitted.enabled j has.1
    · rw [State.clearNotices_has, empty]; simp
  | clearAllNotices =>
    refine ⟨admitted.titles, by simp [State.clearAllNotices, admitted.notices], fun j has => ?_, fun _ => ?_⟩
    · exact admitted.enabled j (EventSet.has_of_has_without has)
    · exact EventSet.has_without_same _ _
  | setEvents set =>
    refine ⟨admitted.titles, admitted.notices, fun j has => ?_, fun empty => ?_⟩
    · exact (Bool.and_eq_true_iff.mp (EventSet.has_and _ _ _ ▸ has)).2
    · rw [EventSet.has_and, admitted.backed empty, Bool.false_and]
  | @readEvents s =>
    refine ⟨admitted.titles, admitted.notices, fun j has => ?_, fun empty => ?_⟩
    · rw [State.eventsLeft_has, Bool.and_eq_true, Bool.and_eq_true] at has
      exact admitted.enabled j has.1.2
    · rw [State.eventsLeft_has, show s.noNotices = true from empty]; rfl
  | restarted =>
    exact ⟨rfl, rfl, fun k has => absurd has (Bool.eq_false_iff.mp (EventSet.has_zero k)), fun _ => EventSet.has_zero _⟩
  | trans _ _ first second => exact second (first admitted)

/-! ### A title's own work keeps it within its course (05, 06) -/

/-- A motion step goes no further than the remaining course, in either direction (06 R107). -/
theorem motionStep_within {t : Title} (within : t.WithinCourse) : (motionStep t).title.WithinCourse := by
  unfold motionStep
  cases kind : t.motion.ramp with
  | none => exact within
  | some r =>
    have course : t.motion.course = r.course := by rw [Motion.course, kind]
    have far : t.travel ≤ r.course := course ▸ within
    simp only [Title.WithinCourse, Title.redisplay_travel, Title.redisplay_motion, course, Title.remaining]
    cases t.backward with
    | true => simp only [if_true]; omega
    | false => simp only [Bool.false_eq_true, if_false]; omega

theorem Title.redisplay_within {t : Title} (within : t.WithinCourse) : t.redisplay.WithinCourse := by
  simpa [Title.WithinCourse] using within

theorem Title.leaveEnds_within {t : Title} (within : t.WithinCourse) (ns : List Notice) :
    (t.leaveEnds ns).1.WithinCourse := within

theorem fadeStep_within {t : Title} (within : t.WithinCourse) (ns : List Notice) :
    (fadeStep t ns).1.WithinCourse := by
  unfold fadeStep
  dsimp only
  split <;> exact within

theorem beginFade_within {t : Title} (within : t.WithinCourse) (ns : List Notice) :
    (beginFade t ns).1.WithinCourse :=
  fadeStep_within (t := { t with phase := .showing (.leaving .fade) }) within ns

theorem reverseStep_within {t : Title} (within : t.WithinCourse) (ns : List Notice) :
    (reverseStep t ns).1.WithinCourse := by
  have moved := motionStep_within within
  unfold reverseStep
  dsimp only
  split
  · exact moved
  · split <;> exact moved

theorem beginLeave_within {t : Title} (within : t.WithinCourse) : (beginLeave t).1.WithinCourse := by
  unfold beginLeave
  split
  · exact within
  · exact beginFade_within within _
  · split
    · exact within
    · exact reverseStep_within (t := t.reversing) within _

theorem turningStep_within {t : Title} (within : t.WithinCourse) (ns : List Notice) :
    (turningStep t ns).1.WithinCourse := by
  have moved := motionStep_within within
  unfold turningStep
  dsimp only
  split
  · split
    · split <;> exact moved
    · exact moved
  · split <;> exact within

theorem enteringStep_within {t : Title} (within : t.WithinCourse) (ns : List Notice) :
    (enteringStep t ns).1.WithinCourse := by
  have moved := motionStep_within within
  unfold enteringStep
  dsimp only
  split
  · split
    · refine beginFade_within ?_ _
      exact within
    · exact within
    · refine turningStep_within ?_ _
      exact within
  · split
    · split <;> exact moved
    · split <;> exact moved

theorem dwellStep_within {t : Title} (within : t.WithinCourse) : (dwellStep t).1.WithinCourse := by
  unfold dwellStep
  dsimp only
  split
  · exact beginLeave_within within
  · split
    · split
      · exact beginLeave_within within
      · exact within
    · exact within

/-- A start sets the travel to 0 where the kind has a course, and shows a title of kind NONE as it is (05 R84). -/
theorem startTest_within (counter : BitVec 16) {t : Title} (within : t.WithinCourse) :
    (startTest counter t).1.WithinCourse := by
  unfold startTest
  split
  · split
    · exact Title.redisplay_within within
    · exact enteringStep_within (Nat.zero_le _) _
  · exact within

theorem titleStep_within (counter : BitVec 16) {t : Title} (within : t.WithinCourse) :
    (titleStep counter t).1.WithinCourse := by
  unfold titleStep
  split
  · exact within
  · exact startTest_within counter within
  · exact enteringStep_within within _
  · exact dwellStep_within within
  · exact turningStep_within within _
  · exact fadeStep_within within _
  · exact reverseStep_within within _
  · exact within
  · exact within

/-- The work of a sequencing command moves no title out of its course. -/
def KeepsCourse (work : Title → Option TitleWork) : Prop :=
  ∀ t w, work t = some w → t.WithinCourse → w.1.WithinCourse

theorem armTitle_keepsCourse : KeepsCourse armTitle := by
  intro t w some within
  unfold armTitle at some
  split at some
  · cases some; exact within
  · cases some

theorem disarmTitle_keepsCourse : KeepsCourse disarmTitle := by
  intro t w some within
  unfold disarmTitle at some
  split at some
  · cases some; exact within
  · cases some

theorem startTitle_keepsCourse : KeepsCourse startTitle := by
  intro t w some within
  unfold startTitle at some
  split at some
  · cases some; exact within
  · cases some; exact within
  · cases some

theorem leaveEntering_within {t : Title} (within : t.WithinCourse) : (leaveEntering t).1.WithinCourse := by
  unfold leaveEntering
  split <;> exact within

theorem leaveTitle_keepsCourse : KeepsCourse leaveTitle := by
  intro t w some within
  unfold leaveTitle at some
  split at some
  case h_4 => cases some; exact leaveEntering_within within
  case h_7 => cases some
  all_goals cases some; exact within

theorem haltTitle_keepsCourse : KeepsCourse haltTitle := by
  intro t w some within
  unfold haltTitle at some
  split at some
  · cases some; exact within
  · cases some

theorem slowHaltTitle_keepsCourse : KeepsCourse slowHaltTitle := by
  intro t w some within
  unfold slowHaltTitle at some
  split at some
  · cases some; exact within
  · exact haltTitle_keepsCourse t w some within

theorem plannedLeave_within {t : Title} (within : t.WithinCourse) : (plannedLeave t).1.WithinCourse := by
  unfold plannedLeave
  split
  · exact within
  · exact leaveEntering_within within
  · exact within

theorem resumeTitle_keepsCourse : KeepsCourse resumeTitle := by
  intro t w some within
  unfold resumeTitle at some
  split at some
  · cases some
    split
    · exact plannedLeave_within within
    · exact within
  · cases some

theorem rearmTitle_keepsCourse : KeepsCourse rearmTitle := by
  intro t w some _
  unfold rearmTitle at some
  split at some
  · cases some; exact Title.redisplay_within (Nat.zero_le _)
  · cases some

theorem gracefulTitle_within {t : Title} (within : t.WithinCourse) : (gracefulTitle t).1.WithinCourse := by
  unfold gracefulTitle
  split
  · rename_i w some
    exact leaveTitle_keepsCourse _ w some within
  · exact within

theorem Title.cueMarked_within (n : Fin 4) {t : Title} (within : t.WithinCourse) : (t.cueMarked n).WithinCourse := by
  rw [Title.cueMarked_eq_markedBy]
  exact within

/-! ### A permitted amendment keeps the title within its course (04 R64, 06 R118) -/

theorem Motion.rampOrFresh_course (m : Motion) : m.rampOrFresh.course = m.course := by
  cases m <;> rfl

/-- A kind other than NONE keeps the course, which is 0 where the record had none (04 R64). -/
theorem Motion.setKind_course {m : Motion} {code : Nat} (kind : (m.setKind code).isNone = false) :
    (m.setKind code).course = m.course := by
  unfold Motion.setKind at kind ⊢
  split at kind
  · cases kind
  · exact m.rampOrFresh_course
  · exact m.rampOrFresh_course
  · exact m.rampOrFresh_course
  · exact m.rampOrFresh_course
  · rfl

theorem Motion.setApproach_course (m : Motion) (code : Nat) : ((m.setApproach code).getD m).course = m.course := by
  cases m with
  | none | fade => rfl
  | wipe | slide => unfold Motion.setApproach; cases SideApproach.ofCode code <;> rfl
  | rise => unfold Motion.setApproach; cases VertApproach.ofCode code <;> rfl

theorem Title.writeKind_within {t : Title} (within : t.WithinCourse) (code : Nat) : (t.writeKind code).WithinCourse := by
  unfold Title.writeKind
  dsimp only
  split
  · exact Nat.zero_le _
  · rename_i kind
    have kind : (t.motion.setKind code).isNone = false := by simpa using kind
    exact le_of_le_of_eq within (Motion.setKind_course kind).symm

/-- A ramp item other than the course moves neither the travel nor the course. -/
theorem Title.editRamp_within {t : Title} (within : t.WithinCourse) {f : Ramp → Ramp}
    (course : ∀ r, (f r).course = r.course) : (t.editRamp f).WithinCourse := by
  unfold Title.editRamp
  cases kind : t.motion.ramp with
  | none => exact within
  | some r =>
    refine le_of_le_of_eq within ?_
    cases motion : t.motion <;> simp_all [Motion.ramp, Motion.course, Motion.withRamp]

/-- T follows a write of the course down to it (06 R118). -/
theorem travelAfterCourse_le (p : Phase) (travel course : Nat) : travelAfterCourse p travel course ≤ course := by
  unfold travelAfterCourse
  split <;> omega

theorem Title.writeCourse_within {t : Title} (kind : t.motion.isNone = false) (value : Nat) :
    (t.writeCourse value).WithinCourse := by
  have far := travelAfterCourse_le t.phase t.travel value
  have course : (t.writeCourse value).motion.course = value := by
    unfold Title.writeCourse Title.editRamp
    cases motion : t.motion with
    | none => rw [motion] at kind; cases kind
    | fade | wipe | slide | rise => rfl
  exact le_of_le_of_eq far course.symm

theorem Title.writeMotion_within {t : Title} {item value : Nat} (permitted : t.permits item value = true)
    (within : t.WithinCourse) : (t.writeMotion item value).WithinCourse := by
  unfold Title.writeMotion
  split
  case h_1 => exact Title.writeKind_within within _
  case h_2 => exact le_of_le_of_eq within (t.motion.setApproach_course value).symm
  case h_3 =>
    have kind : t.motion.isNone = false := by simpa [Title.permits] using permitted
    exact Title.writeCourse_within kind value
  case h_10 =>
    split
    all_goals rename_i motion; simpa [Title.WithinCourse, Motion.course, Motion.ramp, motion] using within
  case h_11 => exact within
  all_goals exact Title.editRamp_within within fun _ => rfl

/-- A placement item, a key item and a timeline item move neither the travel nor the course; a motion item by its own
rules. -/
theorem Title.write_within {t : Title} {item value : Nat} (permitted : t.permits item value = true)
    (within : t.WithinCourse) (pixTotal : Nat) : (t.write pixTotal item value).WithinCourse := by
  refine Title.redisplay_within ?_
  unfold Title.store
  split
  · unfold Title.writePlace
    dsimp only
    split <;> exact within
  · split
    · unfold Title.writeKey
      dsimp only
      split <;> exact within
    · split
      · exact Title.writeMotion_within permitted within
      · unfold Title.writeTimeline
        split <;> exact within

/-! ### The shared operations are made of the moves -/

namespace State.Moves

variable {s t : State}

theorem refl (s : State) : s.Moves s := .frame rfl rfl rfl rfl

/-- A fold of moves. -/
theorem foldl {α : Type} (f : State → α → State) (each : ∀ (s : State) (a : α), s.Moves (f s a)) (s : State)
    (l : List α) : s.Moves (l.foldl f s) := by
  induction l generalizing s with
  | nil => exact refl s
  | cons a rest ih => exact (each s a).trans (ih (f s a))

/-- A record replaced by one within its course, or freed. -/
theorem setTitle {h : Nat} {r : Option Title} (within : s.TravelWithinCourse → ∀ u, r = some u → u.WithinCourse) :
    s.Moves (s.setTitle h r) := by
  unfold State.setTitle
  split
  · exact refl s
  · refine .table _ (List.length_set ..) fun all u live => ?_
    obtain old | new := List.mem_or_eq_of_mem_set live
    · exact all u old
    · exact within all u new.symm

theorem onTitle {h : Nat} {body : Title → Performed} (work : ∀ r, s.title h = some r → s.Moves (body r).1) :
    s.Moves (s.onTitle h body).1 := by
  unfold State.onTitle
  split
  · exact refl s
  · rename_i r live
    exact work r live

end State.Moves

theorem State.TravelWithinCourse.title {s : State} (all : s.TravelWithinCourse) {h : Nat} {t : Title}
    (live : s.title h = some t) : t.WithinCourse :=
  all t (State.title_some_mem live)

theorem State.notifyAll_moves {s : State} {h : Nat} (pos : 0 < h) (le : h ≤ s.titles.length) (ns : List Notice) :
    s.Moves (s.notifyAll h ns) := by
  induction ns generalizing s with
  | nil => exact .refl s
  | cons n rest ih => exact (State.Moves.notify pos le n).trans (ih (by simpa using le))

theorem State.freeRecord_moves (s : State) (h : Nat) : s.Moves (s.freeRecord h) :=
  (State.Moves.setTitle (h := h) (r := none) fun _ _ none => by cases none).trans (.frame rfl rfl rfl rfl)

theorem State.settleTitle_moves {s : State} {h : Nat} {t : Title} (live : s.title h = some t) {w : TitleWork}
    (work : t.WithinCourse → w.1.WithinCourse) : s.Moves (s.settleTitle h w) := by
  obtain ⟨pos, le⟩ := State.title_some_bounds live
  have put : s.Moves (s.setTitle h (some w.1)) :=
    .setTitle fun all u same => Option.some.inj same ▸ work (all.title live)
  have noted := put.trans (State.notifyAll_moves (s := s.setTitle h (some w.1)) pos (by simpa using le) w.2)
  rw [State.settleTitle_eq]
  dsimp only
  split
  · exact noted.trans (State.freeRecord_moves _ h)
  · exact noted

theorem State.fieldStep_moves (s : State) : s.Moves s.fieldStep := by
  unfold State.fieldStep
  refine .foldl _ (fun s h => ?_) s _
  split
  · exact .refl s
  · rename_i live
    exact State.settleTitle_moves live (titleStep_within _)

theorem State.cutTitles_moves (s : State) : s.Moves s.cutTitles := by
  unfold State.cutTitles
  refine .foldl _ (fun s h => ?_) s _
  split
  · exact .refl s
  · rename_i live
    split
    · exact State.settleTitle_moves live id
    · exact .refl s

theorem State.cueMark_moves (s : State) (n : Fin 4) : s.Moves (s.cueMark n) := by
  refine .table _ (List.length_map ..) fun all t live => ?_
  obtain ⟨r, member, marked⟩ := List.mem_map.mp live
  obtain ⟨old, rfl, rfl⟩ := Option.map_eq_some_iff.mp marked
  exact old.cueMarked_within n (all old member)

theorem State.cueSample_moves (s : State) (n : Fin 4) (level : Level) : s.Moves (s.cueSample n level) := by
  have sampled : s.Moves { s with clu := s.clu.put n ((s.clu.get n).sampled level) } := .frame rfl rfl rfl rfl
  unfold State.cueSample
  dsimp only
  split
  · have raised := sampled.trans (.raise (.cue n) (by simp))
    split
    · exact raised
    · exact raised.trans (State.cueMark_moves _ n)
  · exact sampled

theorem State.cueWork_moves (s : State) : s.Moves s.cueWork :=
  (((s.cueSample_moves 0 _).trans (State.cueSample_moves _ 1 _)).trans (State.cueSample_moves _ 2 _)).trans
    (State.cueSample_moves _ 3 _)

theorem State.stepAndCues_moves (s : State) (fieldStep cueFirst : Bool) :
    s.Moves (s.stepAndCues fieldStep cueFirst) := by
  unfold State.stepAndCues
  split
  · exact s.cueWork_moves
  · split
    · exact s.cueWork_moves.trans (State.fieldStep_moves _)
    · exact s.fieldStep_moves.trans (State.cueWork_moves _)

/-- Each entry of a commit writes a record as permitted, raises DROPPED for a live title, or does neither (07 R128). -/
theorem applyEntry_moves (acc : State × Bool) (e : Entry) : acc.1.Moves (applyEntry acc e).1 := by
  obtain ⟨s, written⟩ := acc
  obtain ⟨-, eq⟩ | ⟨-, -, eq⟩ | ⟨t, -, live, permitted, eq⟩ | ⟨t, -, live, -, eq⟩ := applyEntry_cases s written e <;>
    rw [eq]
  · exact .frame rfl rfl rfl rfl
  · exact .refl s
  · exact .setTitle fun all u same => Option.some.inj same ▸ Title.write_within permitted (all.title live) _
  · obtain ⟨pos, le⟩ := State.title_some_bounds live
    exact .notify pos le .dropped

theorem applyEntries_moves (es : List Entry) (acc : State × Bool) : acc.1.Moves (es.foldl applyEntry acc).1 := by
  induction es generalizing acc with
  | nil => exact .refl acc.1
  | cons e rest ih => exact (applyEntry_moves acc e).trans (ih _)

theorem State.commit_moves (s : State) : s.Moves s.commit := by
  by_cases idle : s.aq.held = true ∨ s.aq.entries = []
  · rw [State.commit_of_idle idle]; exact .refl s
  · have emptied := (applyEntries_moves s.aq.entries (s, false)).trans
      (.frame (t := State.withEmptyQueue _) rfl rfl rfl rfl)
    rw [State.commit_of_waiting idle]
    dsimp only
    split
    · exact emptied.trans (.raise .queueDrained (by simp))
    · exact emptied

/-! ### The part's own events are made of the moves -/

theorem State.standardTest_moves (s : State) : s.Moves s.standardTest := by
  rw [State.standardTest_eq]
  split
  · exact .refl s
  · refine State.Moves.trans ?_ (.raise .standardChanged (by simp))
    exact .frame rfl rfl rfl rfl

theorem State.irregularField_moves (s : State) : s.Moves s.irregularField := by
  unfold State.irregularField
  split
  · refine State.Moves.trans ?_ (.raise .fieldIrregular (by simp))
    exact .frame rfl rfl rfl rfl
  · exact .refl s

theorem State.handLength_moves (s : State) (length : Option Nat) : s.Moves (s.handLength length) :=
  (State.Moves.frame (s := s) (t := s.withLength length) rfl rfl rfl rfl).trans (State.standardTest_moves _)

theorem State.replaceLength_moves (s : State) (length : Nat) : s.Moves (s.replaceLength length) :=
  (State.Moves.frame (s := s) (t := s.withNewest length) rfl rfl rfl rfl).trans (State.standardTest_moves _)

theorem State.realFieldStart_moves (s : State) (y' : Nat) (p : Parity) : s.Moves (s.realFieldStart y' p) := by
  have judged : s.Moves
      (if y' = s.lle.fieldLines + 2 then s.handLength (some (y' - 2))
        else (s.handLength (some (y' - 2))).irregularField) := by
    split
    · exact s.handLength_moves _
    · exact (s.handLength_moves _).trans (State.irregularField_moves _)
  unfold State.realFieldStart
  exact judged.trans (.frame rfl rfl rfl rfl)

theorem State.decideVertical_moves (s : State) : s.Moves s.decideVertical.1 := by
  have taken : s.Moves s.takeRecognition := .frame rfl rfl rfl rfl
  obtain ⟨p, -, -, -, eq⟩ | ⟨p, -, -, -, eq⟩ | ⟨-, -, -, eq⟩ | ⟨-, -, -, eq⟩ | ⟨-, -, eq⟩ | ⟨-, -, eq⟩ :=
    s.decideVertical_cases <;> rw [eq]
  · exact taken.trans (State.realFieldStart_moves _ _ p)
  · have replaced := taken.trans (State.replaceLength_moves s.takeRecognition
      (s.takeRecognition.lle.closedLines + (s.lle.y + 1) - 2))
    have parity := replaced.trans (.frame (t := State.setParity _ p) rfl rfl rfl rfl)
    exact (parity.trans (State.irregularField_moves _)).trans (.frame rfl rfl rfl rfl)
  · exact (taken.trans (State.handLength_moves _ none)).trans (.frame rfl rfl rfl rfl)
  · exact taken.trans (.frame rfl rfl rfl rfl)
  · exact taken.trans (.frame rfl rfl rfl rfl)
  · exact taken.trans (.frame rfl rfl rfl rfl)

theorem State.buildSpans_moves (s : State) : s.Moves s.buildSpans := by
  unfold State.buildSpans
  dsimp only
  split
  · refine State.Moves.trans ?_ (.raise .spanOverflow (by simp))
    exact .frame rfl rfl rfl rfl
  · exact .frame rfl rfl rfl rfl

theorem State.committedLine_moves (s : State) (cues : CueLevels) : s.Moves (s.committedLine cues) := by
  have decided : s.Moves (s.atLineStart cues).decideVertical.1 :=
    (State.Moves.frame (s := s) (t := s.atLineStart cues) rfl rfl rfl rfl).trans (State.decideVertical_moves _)
  unfold State.committedLine
  dsimp only
  split
  · exact decided.trans (State.commit_moves _)
  · exact decided

theorem State.lineStart_moves (s : State) (cues : CueLevels) (cueFirst : Bool) :
    s.Moves (s.lineStart cues cueFirst) := by
  have begun : s.Moves (s.settledLine cues).beginLine := by
    refine (s.committedLine_moves cues).trans ?_
    rw [State.beginLine_frame, State.settledLine_frame]
    exact .frame rfl rfl rfl rfl
  rw [State.lineStart_eq]
  exact (begun.trans (State.buildSpans_moves _)).trans (State.stepAndCues_moves _ _ _)

/-- A tracked edge writes the LLE, and a slip raises its event (02 R25). -/
theorem State.trackedEdge_moves (s : State) (t : Timestamp) (e : Int) : s.Moves (s.trackedEdge t e) := by
  unfold State.trackedEdge
  dsimp only
  split
  · exact .frame rfl rfl rfl rfl
  · split
    · exact .frame rfl rfl rfl rfl
    · refine State.Moves.trans ?_ (.raise .slip (by simp))
      exact .frame rfl rfl rfl rfl

theorem State.acquiringEdge_moves (s : State) (e : Int) : s.Moves (s.acquiringEdge e) := by
  unfold State.acquiringEdge
  dsimp only
  split
  · split
    · exact .frame rfl rfl rfl rfl
    · refine State.Moves.trans ?_ (.raise .lockGained (by simp))
      exact .frame rfl rfl rfl rfl
  · exact .frame rfl rfl rfl rfl

theorem State.acceptEdge_moves (s : State) (t : Timestamp) : s.Moves (s.acceptEdge t) := by
  cases lock : s.lle.lock with
  | acquiring =>
    rw [State.acceptEdge_acquiring lock]
    exact State.Moves.trans (s := s) (t := s.shutGate) (.frame rfl rfl rfl rfl) (State.acquiringEdge_moves _ _)
  | locked =>
    rw [State.acceptEdge_locked lock]
    exact State.Moves.trans (s := s) (t := s.shutGate) (.frame rfl rfl rfl rfl) (State.trackedEdge_moves _ _ _)
  | flywheel =>
    rw [State.acceptEdge_flywheel lock, State.acceptEdge_locked rfl]
    refine State.Moves.trans (s := s) ?_ (State.trackedEdge_moves _ _ _)
    exact .frame rfl rfl rfl rfl
  | freeRun | standby => simp only [State.acceptEdge, lock]; exact .refl s

theorem State.qualify_moves (s : State) : s.Moves s.qualify := by
  have judged : s.Moves s.qualified := .frame rfl rfl rfl rfl
  rw [State.qualify_eq]
  unfold State.offerCandidate
  split
  · exact judged.trans (State.acceptEdge_moves _ _)
  · exact judged

theorem State.classify_moves (s : State) (c : PulseClass) (next : PulseState) : s.Moves (s.classify c next) := by
  unfold State.classify
  by_cases hs : c = .hs
  · rw [hs, State.handClass_hs]; exact .frame rfl rfl rfl rfl
  · rw [State.handClass_not_hs s _ hs]; exact .frame rfl rfl rfl rfl

theorem State.endPulse_moves (s : State) : s.Moves s.endPulse := by
  unfold State.endPulse
  split
  case h_3 =>
    split
    · exact .frame rfl rfl rfl rfl
    · exact s.qualify_moves.trans (s.qualify.classify_moves _ _)
  case h_4 => exact s.classify_moves _ _
  all_goals exact .frame rfl rfl rfl rfl

theorem State.missingLine_moves (s : State) : s.Moves s.missingLine := by
  have lost (l : LineLock) : s.Moves (State.raise { s with lle := l } .lockLost) :=
    State.Moves.trans (t := { s with lle := l }) (.frame rfl rfl rfl rfl) (.raise .lockLost (by simp))
  unfold State.missingLine
  dsimp only
  split
  case h_1 => exact lost _
  case h_3 =>
    split
    · exact .frame rfl rfl rfl rfl
    · exact lost _
  all_goals exact .frame rfl rfl rfl rfl

theorem State.emitChs_moves (s : State) (line vdelay : Nat) : s.Moves (s.emitChs line vdelay) := by
  unfold State.emitChs
  exact .frame rfl rfl rfl rfl

theorem State.tick_moves (s : State) : s.Moves s.tick := by
  unfold State.tick State.driveSample
  dsimp only
  split
  · exact .frame rfl rfl rfl rfl
  · split <;> exact .frame rfl rfl rfl rfl

/-! ### The commands of the host are made of the moves -/

theorem State.sequence_moves (s : State) (h : Nat) {work : Title → Option TitleWork} (keeps : KeepsCourse work) :
    s.Moves (s.sequence h work).1 := by
  refine .onTitle fun t live => ?_
  split
  · exact .refl s
  · rename_i w some
    exact State.settleTitle_moves live (keeps t w some)

theorem State.freeAndForget_moves (s : State) (h : Nat) : s.Moves (s.freeAndForget h) :=
  (s.freeRecord_moves h).trans (.clearNotices h)

/-- A record of a new title is at the beginning of its course (05 R79). -/
theorem doCreateTitle_moves (ps : List Byte) (s : State) : s.Moves (doCreateTitle ps s).1 := by
  have created (h : Nat) :
      s.Moves ((s.setTitle h (some (blockTitle s.settings.pixTotal ps).redisplay)).clearNotices h) := by
    refine .trans (.setTitle fun _ u same => ?_) (.clearNotices h)
    exact Option.some.inj same ▸ Title.redisplay_within (Nat.zero_le _)
  unfold doCreateTitle
  split
  · exact .refl s
  · split
    · exact .refl s
    · dsimp only
      split <;> exact created _

theorem State.stageEntry_moves (s : State) (given : Nat) (e : Entry) (param : Nat) :
    s.Moves (s.stageEntry given e param).1 := by
  unfold State.stageEntry
  split <;> exact .frame rfl rfl rfl rfl

theorem doAmendTitle_moves (ps : List Byte) (s : State) : s.Moves (doAmendTitle ps s).1 := by
  unfold doAmendTitle
  dsimp only
  split
  · exact .refl s
  · refine .onTitle fun t live => ?_
    split
    · exact .refl s
    · split
      · exact .refl s
      · exact s.stageEntry_moves _ _ _

theorem doRetireTitle_moves (ps : List Byte) (s : State) : s.Moves (doRetireTitle ps s).1 := by
  unfold doRetireTitle
  split
  · exact .onTitle fun _ _ => s.freeAndForget_moves _
  · refine .onTitle fun t live => ?_
    split
    · exact s.freeAndForget_moves _
    · exact State.settleTitle_moves live gracefulTitle_within
  · exact .refl s

theorem doResetTitles_moves (s : State) : s.Moves (doResetTitles s).1 := by
  have emptied : s.Moves { s with titles := s.titles.map fun _ => none } :=
    .table _ (List.length_map ..) fun _ t live => by
      obtain ⟨_, _, none⟩ := List.mem_map.mp live
      cases none
  refine State.Moves.trans (emptied.trans ?_) .clearAllNotices
  exact .frame rfl rfl rfl rfl

theorem doHalt_moves (ps : List Byte) (s : State) : s.Moves (doHalt ps s).1 := by
  unfold doHalt
  split
  · exact s.sequence_moves _ haltTitle_keepsCourse
  · exact s.sequence_moves _ slowHaltTitle_keepsCourse
  · exact .refl s

theorem State.writeSetting_moves (s : State) (item value : Nat) : s.Moves (s.writeSetting item value) := by
  rw [State.writeSetting_frame]
  exact .frame rfl rfl rfl rfl

theorem doSetEvents_moves (ps : List Byte) (s : State) : s.Moves (doSetEvents ps s).1 := by
  unfold doSetEvents
  dsimp only
  split
  · exact .refl s
  · exact .setEvents _

theorem doSetCueLine_moves (ps : List Byte) (s : State) : s.Moves (doSetCueLine ps s).1 := by
  unfold doSetCueLine
  split
  · exact .refl s
  · split
    · exact .frame rfl rfl rfl rfl
    · exact .onTitle fun _ _ => .frame rfl rfl rfl rfl
    · exact .refl s

theorem doCutAll_moves (s : State) : s.Moves (doCutAll s).1 := by
  dsimp only [doCutAll]
  exact s.cutTitles_moves

theorem doReadEvents_moves (s : State) : s.Moves (doReadEvents s).1 :=
  State.Moves.readEvents (s := s)

theorem doReadNotices_moves (s : State) : s.Moves (doReadNotices s).1 :=
  State.Moves.clearAllNotices (s := s)

/-- A command that refuses or goes on, by a test. -/
theorem State.Moves.ite {s : State} {p : Prop} [Decidable p] {a b : Performed} (yes : s.Moves a.1) (no : s.Moves b.1) :
    s.Moves (if p then a else b).1 := by
  split
  · exact yes
  · exact no

theorem performWith_moves (code : Byte) {body : State → Performed} {s : State} (work : s.Moves (body s).1) :
    s.Moves (performWith code body s) := by
  unfold performWith
  split
  · exact .frame rfl rfl rfl rfl
  · exact work.trans (.frame rfl rfl rfl rfl)

theorem perform_moves (c : Command) (ps : List Byte) (s : State) : s.Moves (perform c ps s) := by
  cases c with
  | createTitle => exact performWith_moves _ (doCreateTitle_moves ps s)
  | amendTitle => exact performWith_moves _ (doAmendTitle_moves ps s)
  | queryTitle => exact performWith_moves _ (.onTitle fun _ _ => .refl s)
  | listTitles => exact performWith_moves (body := doListTitles ps) _ (.ite (.refl s) (.refl s))
  | hitTest =>
    refine performWith_moves _ ?_
    unfold doHitTest
    split <;> exact .refl s
  | retireTitle => exact performWith_moves _ (doRetireTitle_moves ps s)
  | resetTitles => exact performWith_moves _ (doResetTitles_moves s)
  | arm => exact performWith_moves (body := fun s => s.sequence _ _) _ (s.sequence_moves _ armTitle_keepsCourse)
  | disarm => exact performWith_moves (body := fun s => s.sequence _ _) _ (s.sequence_moves _ disarmTitle_keepsCourse)
  | start => exact performWith_moves (body := fun s => s.sequence _ _) _ (s.sequence_moves _ startTitle_keepsCourse)
  | leave => exact performWith_moves (body := fun s => s.sequence _ _) _ (s.sequence_moves _ leaveTitle_keepsCourse)
  | resume => exact performWith_moves (body := fun s => s.sequence _ _) _ (s.sequence_moves _ resumeTitle_keepsCourse)
  | rearm => exact performWith_moves (body := fun s => s.sequence _ _) _ (s.sequence_moves _ rearmTitle_keepsCourse)
  | halt => exact performWith_moves _ (doHalt_moves ps s)
  | cutAll => exact performWith_moves _ (doCutAll_moves s)
  | setTiming => exact performWith_moves (body := doSetTiming ps) _ (.ite (.refl s) (s.stageEntry_moves _ _ _))
  | discardPending =>
    exact performWith_moves (body := doDiscardPending ps) _ (.ite (.refl s) (.frame rfl rfl rfl rfl))
  | setMode =>
    exact performWith_moves (body := doSetMode ps) _
      (.ite (.refl s) (.ite (.refl s) (.ite (.refl s) (s.writeSetting_moves _ _))))
  | reportMode => exact performWith_moves (body := doReportMode ps) _ (.ite (.refl s) (.refl s))
  | setEvents => exact performWith_moves _ (doSetEvents_moves ps s)
  | enterStandby => exact performWith_moves (body := doEnterStandby) _ (.ite (.refl s) (.frame rfl rfl rfl rfl))
  | leaveStandby => exact performWith_moves (body := doLeaveStandby) _ (.ite (.frame rfl rfl rfl rfl) (.refl s))
  | setCueLine => exact performWith_moves _ (doSetCueLine_moves ps s)
  | holdAmendments | applyAmendments =>
    exact performWith_moves (body := fun s => s.setHeld _) _ (.frame rfl rfl rfl rfl)
  | queryPending => exact performWith_moves (body := doQueryPending) _ (.refl s)
  | reportCueLines => exact performWith_moves (body := doReportCueLines) _ (.refl s)
  | readEvents => exact performWith_moves _ (doReadEvents_moves s)
  | readNotices => exact performWith_moves _ (doReadNotices_moves s)
  | reportCondition => exact .frame rfl rfl rfl rfl
  | reportLock =>
    unfold perform
    dsimp only
    split <;> exact .frame rfl rfl rfl rfl

/-! ### Every step is made of the moves -/

theorem State.Access.moves {s t : State} (access : s.Access t) : s.Moves t :=
  .frame (by rw [access.frame]) access.notices access.enables access.events

theorem State.Row.moves {s t : State} (row : s.Row t) : s.Moves t := by
  cases row with
  | powerOn csync => exact .restarted csync _ _
  | pinReset => exact .restarted _ _ _
  | endPulse => exact s.endPulse_moves.trans (.frame rfl rfl rfl rfl)
  | qualify => exact s.qualify_moves
  | overlong => exact s.classify_moves _ _
  | missingLine => exact s.missingLine_moves
  | emitChs => exact s.emitChs_moves _ _
  | lineStart due cues cueFirst => exact s.lineStart_moves cues cueFirst
  | access access => exact access.moves
  | perform access c ps => exact access.moves.trans (perform_moves c ps _)
  | refuseUnknown access code => exact access.moves.trans (performWith_moves code (.refl _))
  | pinResetStart | csyncDuringReset | beginPulse | runExpiry | gateOpen | freeLine | takeSample | chsPulseEnd =>
    exact .frame rfl rfl rfl rfl

theorem step_moves {s t : State} (run : step s = .next t) : s.Moves t := by
  obtain ⟨queue, index, row⟩ | rfl := step_cases run
  · exact State.Moves.trans (t := { s with pending := queue, freeIndex := index }) (.frame rfl rfl rfl rfl) row.moves
  · exact s.tick_moves

/-- Settles O57: each move of a step keeps the events admitted. -/
theorem everyStepKeepsEventsAdmitted : Obligations.EveryStepKeepsEventsAdmitted :=
  fun _ _ admitted run => (step_moves run).keepsAdmitted admitted

/-- Settles O59: each move of a step keeps the travel of every title within its course. -/
theorem everyStepKeepsTravelWithinTheCourse : Obligations.EveryStepKeepsTravelWithinTheCourse :=
  fun _ _ within run => (step_moves run).keepsTravel within

end Sys2Proof.Machine
end

section
/-! ## The notice store and the pending events as they are written (05 R92, R100, 04 R71, R72, 11 R182, R184) -/

namespace Sys2Proof.Machine

open Sys2Proof

/-! ### What is left as it was -/

/-- A step that keeps the core, the STG and the rest of the port writes the title table, the queue, the cue lines, the
notices and the events alone. -/
theorem State.SameCore.frame {s t : State} (core : s.SameCore t) (stg : t.stg = s.stg)
    (port : t.cpr = { s.cpr with events := t.cpr.events, notices := t.cpr.notices }) :
    t = { s with
      titles := t.titles, aq := t.aq, clu := t.clu
      cpr := { s.cpr with notices := t.cpr.notices, events := t.cpr.events } } := by
  obtain ⟨sq, lle, sbk, op, settings, pins, freeIndex, pending, -⟩ := core
  rw [← port, ← sq, ← lle, ← stg, ← sbk, ← op, ← settings, ← pins, ← freeIndex, ← pending]

theorem State.notify_frame (s : State) (h : Nat) (n : Notice) :
    s.notify h n =
      { s with cpr := { s.cpr with
        notices := (s.notify h n).cpr.notices, events := (s.raise .titleActivity).cpr.events } } := by
  unfold State.notify State.setNotices
  split <;> rfl

theorem State.clearNotices_frame (s : State) (h : Nat) :
    s.clearNotices h =
      { s with cpr := { s.cpr with
        notices := (s.clearNotices h).cpr.notices, events := (s.clearNotices h).cpr.events } } := by
  unfold State.clearNotices State.setNotices State.settleActivity
  split <;> split <;> rfl

/-! ### The notice store -/

theorem NoticeSet.isEmpty_eq_false_iff (x : NoticeSet) : x.isEmpty = false ↔ ∃ i, x.has i = true := by
  constructor
  · intro some
    by_contra none
    have each (i : Notice) : x.has i = false := by simpa using fun held => none ⟨i, held⟩
    have empty : x = NoticeSet.empty := by
      cases x
      simp only [NoticeSet.empty, NoticeSet.mk.injEq]
      exact ⟨each .started, each .entered, each .left, each .done, each .dropped⟩
    rw [empty] at some
    cases some
  · rintro ⟨i, held⟩
    by_contra empty
    have empty : x = NoticeSet.empty := by simpa [NoticeSet.isEmpty] using empty
    rw [empty] at held
    cases i <;> cases held

/-- The store holds a notice where the set of some handle has one (11 R184). -/
theorem State.noNotices_eq_false_iff (s : State) : s.noNotices = false ↔ ∃ g i, (s.noticeSet g).has i = true := by
  rw [State.noNotices, List.all_eq_false]
  constructor
  · rintro ⟨x, member, held⟩
    obtain ⟨i, lt, rfl⟩ := List.getElem_of_mem member
    refine ⟨i + 1, (NoticeSet.isEmpty_eq_false_iff _).mp ?_⟩
    simpa [State.noticeSet, lt] using held
  · rintro ⟨g, i, held⟩
    have some := (NoticeSet.isEmpty_eq_false_iff _).mpr ⟨i, held⟩
    refine ⟨s.noticeSet g, ?_, by simp [some]⟩
    unfold State.noticeSet at some ⊢
    split
    · rename_i zero
      rw [if_pos zero] at some
      cases some
    · rename_i pos
      rw [if_neg pos] at some
      by_cases lt : g - 1 < s.cpr.notices.length
      · rw [List.getD_eq_getElem _ _ lt]
        exact List.getElem_mem lt
      · rw [List.getD_eq_default _ _ (Nat.le_of_not_lt lt)] at some
        cases some

theorem State.clearNotices_noticeSet (s : State) {h : Nat} (pos : 1 ≤ h) (le : h ≤ s.cpr.notices.length) (g : Nat) :
    (s.clearNotices h).noticeSet g = if g = h then NoticeSet.empty else s.noticeSet g :=
  (State.noticeSet_congr (State.settleActivity_notices _) g).trans (State.noticeSet_setNotices s pos le _ g)

/-! ### The cue lines that a freed record releases (04 R71) -/

theorem State.settleTitle_clu (s : State) (h : Nat) (w : TitleWork) :
    (s.settleTitle h w).clu = if retires w then s.clu.map (CueLine.release h) else s.clu := by
  rw [State.settleTitle_eq]
  dsimp only
  cases retires w with
  | false => simp [State.notifyAll_clu]
  | true => simp [State.freeRecord, State.notifyAll_clu]

theorem State.settleTitle_aq (s : State) (h : Nat) (w : TitleWork) :
    (s.settleTitle h w).aq =
      if retires w then { s.aq with entries := s.aq.entries.filter fun e => decide (e.handle ≠ h) } else s.aq := by
  have entries := s.settleTitle_entries h w
  have held := (s.settleTitle_core h w).held
  generalize (s.settleTitle h w).aq = q at entries held
  obtain ⟨es, held'⟩ := q
  obtain rfl := entries
  obtain rfl := held
  cases retires w <;> simp

/-- TITLE ACTIVITY becomes pending with a notice, where it is enabled, and no other kind does (05 R100). -/
theorem State.settleTitle_has (s : State) (h : Nat) (w : TitleWork) (k : EventKind) :
    (s.settleTitle h w).cpr.events.has k = true ↔
      s.cpr.events.has k = true ∨ (k = .titleActivity ∧ w.2 ≠ [] ∧ s.cpr.enables.has .titleActivity = true) := by
  by_cases activity : k = .titleActivity
  · subst activity
    rw [State.settleTitle_cpr, State.notifyAll_has_titleActivity, State.setTitle_cpr]
    tauto
  · rw [(s.settleTitle_reports h w).kept k activity]
    simp [activity]

theorem State.settleTitle_noticeSet_has (s : State) {h : Nat} (pos : 1 ≤ h) (le : h ≤ s.cpr.notices.length)
    (w : TitleWork) (g : Nat) (i : Notice) :
    ((s.settleTitle h w).noticeSet g).has i = true ↔ (s.noticeSet g).has i = true ∨ (g = h ∧ i ∈ w.2) := by
  have port := s.settleTitle_cpr h w
  rw [State.noticeSet_congr (t := s.settleTitle h w) (congrArg CommandPort.notices port),
    State.notifyAll_noticeSet_has _ pos (by simpa using le),
    State.noticeSet_congr (t := s.setTitle h (some w.1)) (s := s) (by simp)]

/-- Settles O41: an event, a notice, the work of a title, and a notice set emptied, each by what it writes. -/
theorem noticesAndEventsAreRecorded : Obligations.NoticesAndEventsAreRecorded := by
  intro s
  refine ⟨fun k => ⟨rfl, fun j => ?raise⟩, fun h n pos le => ⟨s.notify_frame h n, s.notify_notices_length h n,
    fun g i => ?notify⟩, ?settle, fun h pos le => ⟨s.clearNotices_frame h, s.clearNotices_noticeSet pos le,
    fun k => ?clear⟩⟩
  case raise => simp [State.raise_has]
  case notify => simp [State.notify_noticeSet_has s pos le]
  case settle =>
    intro h r ns pos inTable le t retired
    have title := State.title_settleTitle s pos inTable (r, ns)
    have frees : retires (r, ns) = true ↔ retired := retires_iff (r, ns)
    have kept (no : ¬retired) : retires (r, ns) = false := by simpa using frees.not.mpr no
    refine ⟨fun yes => ?_, fun no => ?_, fun g ne => ?_, s.settleTitle_noticeSet_has pos le (r, ns),
      s.settleTitle_has h (r, ns), fun yes => ⟨?_, fun n => ?_⟩, fun no => ⟨?_, ?_⟩, ?_⟩
    · rw [title, if_pos rfl, remains, if_pos (frees.mpr yes)]
    · rw [title, if_pos rfl, remains, kept no]; rfl
    · rw [title, if_neg ne]
    · rw [State.settleTitle_aq, if_pos (frees.mpr yes)]
    · rw [State.settleTitle_clu, if_pos (frees.mpr yes), CueLines.get_map]; rfl
    · rw [State.settleTitle_aq, kept no]; rfl
    · rw [State.settleTitle_clu, kept no]; rfl
    · exact (s.settleTitle_core h _).frame (s.settleTitle_frame h _).2.2.1 (s.settleTitle_reports h _).port
  case clear =>
    rw [State.clearNotices_has, ← State.noNotices_eq_false_iff]
    by_cases activity : k = .titleActivity <;> simp [activity]

end Sys2Proof.Machine
end

section
/-! ## Retiring a title, and the refusals of the sequencing commands (04 R71 to R76, 05 R80) -/

namespace Sys2Proof.Machine

open Sys2Proof

/-! ### Commands that name a title -/

/-- A command that names no live title is refused (04 R76). -/
theorem State.onTitle_of_none {s : State} {h : Nat} (free : s.title h = none) (body : Title → Performed) :
    s.onTitle h body = (s, Reply.noSuchTitle h) := by
  rw [State.onTitle, free]; rfl

theorem State.onTitle_of_some {s : State} {h : Nat} {t : Title} (live : s.title h = some t) (body : Title → Performed) :
    s.onTitle h body = body t := by
  rw [State.onTitle, live]

theorem finish_noSuchTitle {s : State} {h : Nat} (free : s.title h = none) (code : Byte) (body : Title → Performed) :
    finish code (s.endCollection.onTitle h body) = s.answered code (Reply.check .illegalRequest 2 h 0) := by
  rw [State.onTitle_of_none (s := s.endCollection) free]
  exact finish_endCollection s code _

/-- The generic write of the last byte of a command performs it (11 R174). -/
theorem exec_parameterByteWrite_last {s : State} {c : Command} {ps : List Byte} (w : s.Awaits c ps) (b : Byte) :
    exec (.parameterByteWrite b) s = .next (perform c (ps ++ [b]) s.endCollection) := by
  obtain ⟨⟨up, -⟩, col, len⟩ := w
  have col' : s.cpr.collecting = some { command := c, params := ps } := col
  refine congrArg Host.Outcome.next ?_
  simp [State.writeParameter, up, col', len]

/-- A mode byte that the work of its command refuses (log 13). -/
theorem exec_badMode {s : State} {c : Command} {h mode : Byte} (w : s.Awaits c [h])
    {body : List Byte → State → Performed}
    (performed : ∀ (ps : List Byte) (s : State), perform c ps s = performWith c.code (body ps) s)
    (refuses : body [h, mode] s.endCollection = (s.endCollection, Reply.badChoice 0)) :
    exec (.parameterByteWrite mode) s = .next (s.answered c.code (Reply.check .illegalRequest 4 0 0)) := by
  have quiet : s.endCollection.cpr.attention.any = false := w.1.2
  rw [exec_parameterByteWrite_last w, performed, performWith_performs _ _ quiet, List.singleton_append, refuses,
    finish_endCollection]
  rfl

/-- A work settled with nothing collected, answered. -/
theorem finish_settleTitle (s : State) (h : Nat) (w : TitleWork) (code : Byte) (r : Reply) :
    finish code (s.endCollection.settleTitle h w, r) = (s.settleTitle h w).answered code r := by
  rw [State.endCollection_settleTitle, finish_endCollection]

/-! ### RETIRE TITLE (04 R71 to R74) -/

theorem exec_retireTitleImmediate {s : State} {h : Byte} (w : s.Awaits .retireTitle [h]) :
    exec .retireTitleImmediate s = .next (finish 0x15 (s.endCollection.retireNow h.toNat)) :=
  congrArg Host.Outcome.next (State.lastByte_performed w 0 0x15 fun ps s => s.retireNow (byteAt ps 1))

theorem exec_retireTitleGraceful {s : State} {h : Byte} (w : s.Awaits .retireTitle [h]) :
    exec .retireTitleGraceful s = .next (finish 0x15 (s.endCollection.retireGracefully h.toNat)) :=
  congrArg Host.Outcome.next (State.lastByte_performed w 1 0x15 fun ps s => s.retireGracefully (byteAt ps 1))

/-- A record retired at once goes with its queue entries, its nominations and its notice set (04 R71, R72). -/
theorem finish_freeAndForget {s : State} {h : Byte} {t : Title} (live : s.title h.toNat = some t) (code : Byte)
    (r : Reply) :
    finish code (s.endCollection.freeAndForget h.toNat, r) = ((s.freed h).clearNotices h.toNat).answered code r := by
  obtain ⟨pos, -⟩ := State.title_some_range live
  rw [State.freeAndForget, State.endCollection_freeRecord, State.endCollection_clearNotices,
    State.freeRecord_eq_freed s h pos, finish_endCollection]

theorem Phase.retiresAtOnce_iff (p : Phase) : p.retiresAtOnce = true ↔ p = .dormant ∨ p = .armed ∨ ∃ o, p = .done o := by
  cases p <;> simp [Phase.retiresAtOnce]

theorem Phase.retiresAtOnce_eq (p : Phase) : p.retiresAtOnce = !p.isShowing := by
  cases p <;> rfl

theorem State.retireGracefully_atOnce {s : State} {h : Nat} {t : Title} (live : s.title h = some t)
    (atOnce : t.phase.retiresAtOnce = true) : s.retireGracefully h = (s.freeAndForget h, Reply.good []) := by
  rw [State.retireGracefully, State.onTitle_of_some live, if_pos atOnce]

theorem State.retireGracefully_showing {s : State} {h : Nat} {t : Title} (live : s.title h = some t)
    (showing : t.phase.isShowing = true) :
    s.retireGracefully h = (s.settleTitle h (gracefulTitle t), Reply.good []) := by
  rw [State.retireGracefully, State.onTitle_of_some live, if_neg (by simp [Phase.retiresAtOnce_eq, showing])]

theorem gracefulTitle_leaving {t : Title} {w : TitleWork} (leaves : leaveTitle { t with autoRetire := true } = some w) :
    gracefulTitle t = w := by
  rw [gracefulTitle, leaves]

/-- A title that LEAVE would refuse goes on as it was (04 R74). -/
theorem gracefulTitle_refused {t : Title} (refused : leaveTitle { t with autoRetire := true } = none) :
    gracefulTitle t = ({ t with autoRetire := true }, []) := by
  rw [gracefulTitle, refused]

/-- A mode byte that is neither IMMEDIATE nor GRACEFUL is refused before the handle (04 R73, log 13). -/
theorem doRetireTitle_badMode {h mode : Byte} (bad : 2 ≤ mode.toNat) (s : State) :
    doRetireTitle [h, mode] s = (s, Reply.badChoice 0) := by
  unfold doRetireTitle
  have two : byteAt [h, mode] 2 = mode.toNat := rfl
  split
  · omega
  · omega
  · rfl

/-- Settles O42: the handle, then the phase, and in a showing phase whether LEAVE accepts. -/
theorem retireFreesOrLeaves : Obligations.RetireFreesOrLeaves := by
  intro s h w
  refine ⟨fun free => ⟨?_, ?_⟩, fun t live => ?live, fun mode bad => ?_⟩
  · rw [exec_retireTitleImmediate w, State.retireNow, finish_noSuchTitle free]
  · rw [exec_retireTitleGraceful w, State.retireGracefully, finish_noSuchTitle free]
  case live =>
    intro freed kept
    have live' : s.endCollection.title h.toNat = some t := live
    have graceful (showing : t.phase.isShowing = true) {v : TitleWork} (work : gracefulTitle t = v) :
        exec .retireTitleGraceful s = .next ((s.settleTitle h.toNat v).answered 0x15 (Reply.good [])) := by
      rw [exec_retireTitleGraceful w, State.retireGracefully_showing live' showing, work, finish_settleTitle]
    refine ⟨?_, fun outside => ?_, fun showing v leaves => ?_, fun showing refused => ?_⟩
    · rw [exec_retireTitleImmediate w, State.retireNow, State.onTitle_of_some live', finish_freeAndForget live]
    · rw [exec_retireTitleGraceful w, State.retireGracefully_atOnce live' (t.phase.retiresAtOnce_iff.mpr outside),
        finish_freeAndForget live]
    · exact graceful showing (gracefulTitle_leaving leaves)
    · rw [graceful showing (gracefulTitle_refused refused), State.settleTitle_silent,
        State.setTitle_eq_withTitle s h (State.title_some_range live).1]
  · exact exec_badMode w (fun _ _ => rfl) (doRetireTitle_badMode bad _)

/-! ### The refusals of the sequencing commands (05 R80) -/

theorem armTitle_eq_none {t : Title} (no : ¬t.phase.accepts .arm) : armTitle t = none := by
  cases phase : t.phase <;> simp_all [armTitle, Phase.accepts]

theorem disarmTitle_eq_none {t : Title} (no : ¬t.phase.accepts .disarm) : disarmTitle t = none := by
  cases phase : t.phase <;> simp_all [disarmTitle, Phase.accepts]

theorem startTitle_eq_none {t : Title} (no : ¬t.phase.accepts .start) : startTitle t = none := by
  cases phase : t.phase <;> simp_all [startTitle, Phase.accepts]

theorem leaveTitle_eq_none {t : Title} (no : ¬t.phase.accepts .leave) : leaveTitle t = none := by
  unfold leaveTitle
  split
  case h_7 => rfl
  all_goals rename_i phase; exact absurd (by simp [phase, Phase.accepts]) no

theorem haltTitle_eq_none {t : Title} (no : ¬t.phase.accepts .halt) : haltTitle t = none := by
  cases phase : t.phase <;> simp_all [haltTitle, Phase.accepts]

/-- A title that is not showing cannot slow down either (05 R95). -/
theorem slowHaltTitle_eq_none {t : Title} (no : ¬t.phase.accepts .halt) : slowHaltTitle t = none := by
  have still : t.slowsToHalt = false := by
    unfold Title.slowsToHalt
    split
    case h_4 => rfl
    all_goals rename_i phase; exact absurd ⟨_, phase⟩ no
  rw [slowHaltTitle, still, if_neg Bool.false_ne_true, haltTitle_eq_none no]

theorem resumeTitle_eq_none {t : Title} (no : ¬t.phase.accepts .resume) : resumeTitle t = none := by
  cases phase : t.phase <;> simp_all [resumeTitle, Phase.accepts]

theorem rearmTitle_eq_none {t : Title} (no : ¬t.phase.accepts .rearm) : rearmTitle t = none := by
  cases phase : t.phase <;> simp_all [rearmTitle, Phase.accepts]

/-- The row of a sequencing command runs one work on the title it names, and the work refuses the phases outside those
of the command (05 R80). -/
def Sequences (i : Instr) (c : Command) (h : Byte) (s : State) : Prop :=
  ∃ work, exec i s = .next (finish c.code (s.endCollection.sequence h.toNat work)) ∧
    ∀ t : Title, ¬t.phase.accepts c → work t = none

/-- The row of a last byte that runs a work on the title of the first parameter byte. -/
theorem sequences_of_lastByte {s : State} {i : Instr} {c : Command} {b h : Byte} {ps : List Byte} (w : s.Awaits c ps)
    {work : Title → Option TitleWork}
    (row : exec i s =
      .next (s.lastByte c b fun ps s => performWith c.code (fun s => s.sequence (byteAt ps 1) work) s))
    (handle : byteAt (ps ++ [b]) 1 = h.toNat) (refuses : ∀ t : Title, ¬t.phase.accepts c → work t = none) :
    Sequences i c h s := by
  refine ⟨work, ?_, refuses⟩
  rw [row, State.lastByte_performed w b c.code fun ps s => s.sequence (byteAt ps 1) work, handle]

/-- Each row of a sequencing command is one of these (05 R81, R82, R93 to R97). -/
theorem exec_sequences {s : State} {i : Instr} {c : Command} {b h : Byte} {ps : List Byte}
    (last : i.lastByteOf = some (c, b)) (sequencing : c ∈ [.arm, .disarm, .start, .leave, .halt, .resume, .rearm])
    (w : s.Awaits c ps) (bytes : if c = .halt then ps = [h] else ps = [] ∧ h = b) : Sequences i c h s := by
  cases i with
  | arm =>
    cases last
    obtain ⟨rfl, rfl⟩ := bytes
    exact sequences_of_lastByte w rfl rfl fun t => armTitle_eq_none
  | disarm =>
    cases last
    obtain ⟨rfl, rfl⟩ := bytes
    exact sequences_of_lastByte w rfl rfl fun t => disarmTitle_eq_none
  | start =>
    cases last
    obtain ⟨rfl, rfl⟩ := bytes
    exact sequences_of_lastByte w rfl rfl fun t => startTitle_eq_none
  | leave =>
    cases last
    obtain ⟨rfl, rfl⟩ := bytes
    exact sequences_of_lastByte w rfl rfl fun t => leaveTitle_eq_none
  | resume =>
    cases last
    obtain ⟨rfl, rfl⟩ := bytes
    exact sequences_of_lastByte w rfl rfl fun t => resumeTitle_eq_none
  | rearm =>
    cases last
    obtain ⟨rfl, rfl⟩ := bytes
    exact sequences_of_lastByte w rfl rfl fun t => rearmTitle_eq_none
  | haltImmediate =>
    cases last
    obtain rfl := bytes
    exact sequences_of_lastByte w rfl rfl fun t => haltTitle_eq_none
  | haltDecelerated =>
    cases last
    obtain rfl := bytes
    exact sequences_of_lastByte w rfl rfl fun t => slowHaltTitle_eq_none
  | createTitle | amendTitle | queryTitle | listTitles | hitTest | retireTitleImmediate | retireTitleGraceful | setTiming
  | discardPending | setMode | reportMode | setEvents | setCueLine | reportCondition =>
    cases last
    simp at sequencing
  | _ => cases last

/-- A mode byte that is neither IMMEDIATE nor DECELERATED is refused before the handle (05 R80, log 13). -/
theorem doHalt_badMode {h mode : Byte} (bad : 2 ≤ mode.toNat) (s : State) :
    doHalt [h, mode] s = (s, Reply.badChoice 0) := by
  unfold doHalt
  have two : byteAt [h, mode] 2 = mode.toNat := rfl
  split
  · omega
  · omega
  · rfl

theorem State.sequence_refused {s : State} {h : Nat} {t : Title} (live : s.title h = some t)
    {work : Title → Option TitleWork} (refuses : work t = none) :
    s.sequence h work = (s, Reply.check .wrongPhase t.phase.code h 0) := by
  rw [State.sequence, State.onTitle_of_some live, refuses]; rfl

/-- Settles O44: the handle, then the phase; and for HALT the mode before both. -/
theorem sequencingCommandsAreRefusedByHandleAndPhase : Obligations.SequencingCommandsAreRefusedByHandleAndPhase := by
  intro s i c b h ps last sequencing w bytes
  obtain ⟨work, row, refuses⟩ := exec_sequences last sequencing w bytes
  refine ⟨fun free => ?_, fun t live no => ?_, fun halt mode bad => ?_⟩
  · rw [row, State.sequence, finish_noSuchTitle free]
  · rw [row, State.sequence_refused (s := s.endCollection) live (refuses t no), finish_endCollection]
  · subst halt
    obtain rfl := bytes
    exact exec_badMode w (fun _ _ => rfl) (doHalt_badMode bad _)

end Sys2Proof.Machine
end

section
/-! ## The records and the cue lines after the work of many titles (04 R71, 05 R92) -/

namespace Sys2Proof.Machine

open Sys2Proof

/-! ### The lines that freed records release -/

/-- A cue line after some handles are freed: a line that nominates one of them is an INPUT line begun afresh
(04 R71, 09 R160). -/
def CueLine.releasedBy (freed : Nat → Bool) (l : CueLine) : CueLine :=
  match l.role with
  | .input => l
  | .tally h => if freed h then CueLine.retaken .input else l

theorem CueLine.releasedBy_of_input {l : CueLine} (input : l.role = .input) (freed : Nat → Bool) :
    l.releasedBy freed = l := by
  rw [CueLine.releasedBy, input]

theorem CueLine.releasedBy_of_tally {l : CueLine} {h : Nat} (tally : l.role = .tally h) (freed : Nat → Bool) :
    l.releasedBy freed = if freed h then CueLine.retaken .input else l := by
  rw [CueLine.releasedBy, tally]

theorem CueLine.releasedBy_none (l : CueLine) : l.releasedBy (fun _ => false) = l := by
  cases role : l.role with
  | input => exact CueLine.releasedBy_of_input role _
  | tally h => rw [CueLine.releasedBy_of_tally role]; rfl

theorem CueLine.release_eq_releasedBy (h : Nat) (l : CueLine) :
    CueLine.release h l = l.releasedBy fun g => decide (g = h) := by
  cases role : l.role with
  | input => simp [CueLine.release, CueLine.releasedBy_of_input role, role]
  | tally g => simp [CueLine.release, CueLine.releasedBy_of_tally role, role]

theorem CueLine.releasedBy_releasedBy (a b : Nat → Bool) (l : CueLine) :
    (l.releasedBy a).releasedBy b = l.releasedBy fun h => a h || b h := by
  cases role : l.role with
  | input => simp only [CueLine.releasedBy_of_input role]
  | tally h =>
    rw [CueLine.releasedBy_of_tally role a, CueLine.releasedBy_of_tally role fun h => a h || b h]
    cases a h with
    | true => rfl
    | false => simp [CueLine.releasedBy_of_tally role]

/-- A released line had no edge and has none (09 R156). -/
theorem CueLine.releasedBy_hasEdge (freed : Nat → Bool) (l : CueLine) (level : Level) :
    (l.releasedBy freed).hasEdge level = l.hasEdge level := by
  cases role : l.role with
  | input => rw [CueLine.releasedBy_of_input role]
  | tally h =>
    rw [CueLine.releasedBy_of_tally role, CueLine.hasEdge_of_tally role]
    split
    · rfl
    · exact CueLine.hasEdge_of_tally role level

/-! ### The work of many titles, by its records and lines alone -/

/-- What the settling of the work of the handles `hs` leaves of the records and of the cue lines. -/
structure State.Frees (s : State) (work : Title → TitleWork) (hs : List Nat) (t : State) : Prop where
  title : ∀ h, t.title h = if h ∈ hs then (s.title h).bind fun r => remains (work r) else s.title h
  line : ∀ n, t.clu.get n =
    (s.clu.get n).releasedBy fun h => decide (h ∈ hs) && (s.title h).any fun r => retires (work r)

theorem State.settleWork_frees (s : State) (work : Title → TitleWork) (h : Nat) :
    s.Frees work [h] (s.settleWork work h) := by
  unfold State.settleWork
  cases live : s.title h with
  | none =>
    have none (g : Nat) : (decide (g ∈ [h]) && (s.title g).any fun r => retires (work r)) = false := by
      by_cases same : g = h <;> simp [same, live]
    refine ⟨fun k => ?_, fun n => ?_⟩
    · by_cases same : k = h <;> simp [same, live]
    · simp only [none, CueLine.releasedBy_none]
  | some r =>
    obtain ⟨pos, le⟩ := State.title_some_bounds live
    refine ⟨fun k => ?_, fun n => ?_⟩
    · rw [State.title_settleTitle s pos le]
      by_cases same : k = h <;> simp [same, live]
    · have here (g : Nat) : (decide (g ∈ [h]) && (s.title g).any fun r => retires (work r)) =
          (decide (g = h) && retires (work r)) := by
        by_cases same : g = h <;> simp [same, live]
      simp only [here]
      rw [State.settleTitle_clu]
      cases retires (work r) with
      | true => simp [CueLines.get_map, CueLine.release_eq_releasedBy]
      | false => simp [CueLine.releasedBy_none]

theorem State.Frees.cons {s t u : State} {work : Title → TitleWork} {h : Nat} {rest : List Nat} (new : h ∉ rest)
    (a : s.Frees work [h] t) (b : t.Frees work rest u) : s.Frees work (h :: rest) u := by
  have later {k : Nat} (inRest : k ∈ rest) : t.title k = s.title k := by
    rw [a.title, if_neg]
    rintro isFirst
    exact new (List.mem_singleton.mp isFirst ▸ inRest)
  refine ⟨fun k => ?_, fun n => ?_⟩
  · rw [b.title]
    by_cases inRest : k ∈ rest
    · simp [inRest, later inRest]
    · rw [if_neg inRest, a.title]
      simp [inRest]
  · rw [b.line, a.line, CueLine.releasedBy_releasedBy]
    congr 1
    funext k
    by_cases inRest : k ∈ rest
    · have ne : k ≠ h := fun same => new (same ▸ inRest)
      simp [inRest, later inRest, ne]
    · simp [inRest]

theorem State.settleEach_frees (work : Title → TitleWork) {hs : List Nat} (distinct : hs.Nodup) (s : State) :
    s.Frees work hs (hs.foldl (fun s h => s.settleWork work h) s) := by
  induction hs generalizing s with
  | nil => exact ⟨fun h => by simp, fun n => by simp [CueLine.releasedBy_none]⟩
  | cons h rest ih =>
    obtain ⟨new, distinct⟩ := List.nodup_cons.mp distinct
    exact (s.settleWork_frees work h).cons new (ih distinct _)

theorem State.fieldStep_frees (s : State) : s.Frees (titleStep s.lle.fieldCounter) handles s.fieldStep := by
  rw [State.fieldStep_eq, foldl_settleWork_titleStep handles rfl]
  exact State.settleEach_frees _ List.nodup_range' s

/-! ### The work of CUT ALL (05 R98) -/

/-- What CUT ALL does to one title. -/
def cutWork (t : Title) : TitleWork :=
  if t.phase.isShowing then (t.ended .wasCut, [.done]) else (t, [])

theorem cutWork_showing {t : Title} (showing : t.phase.isShowing = true) : cutWork t = (t.ended .wasCut, [.done]) :=
  if_pos showing

theorem cutWork_other {t : Title} (other : t.phase.isShowing = false) : cutWork t = (t, []) :=
  if_neg (by simp [other])

theorem retires_cutWork (t : Title) : retires (cutWork t) = (t.phase.isShowing && t.autoRetire) := by
  cases showing : t.phase.isShowing with
  | true => rw [cutWork_showing showing]; rfl
  | false => rw [cutWork_other showing]; rfl

/-- A live record put in its own place. -/
theorem State.setTitle_self {s : State} {h : Nat} {t : Title} (live : s.title h = some t) :
    s.setTitle h (some t) = s := by
  obtain ⟨pos, le⟩ := State.title_some_bounds live
  have lt : h - 1 < s.titles.length := by omega
  have here : s.titles[h - 1] = some t := by
    rw [State.title_of_pos s pos, List.getElem?_eq_getElem lt] at live
    simpa using live
  rw [State.setTitle, if_neg (by omega), ← here, List.set_getElem_self]

theorem State.cutTitles_eq (s : State) :
    s.cutTitles = handles.foldl (fun s h => s.settleWork cutWork h) s := by
  unfold State.cutTitles
  congr 1
  funext s h
  unfold State.settleWork
  cases live : s.title h with
  | none => rfl
  | some t =>
    dsimp only
    split
    · rename_i showing
      rw [cutWork_showing showing]
    · rename_i other
      rw [cutWork_other (by simpa using other), State.settleTitle_silent, State.setTitle_self live]

theorem State.cutTitles_settles {s : State} (len : s.titles.length = s.cpr.notices.length) :
    s.Settles cutWork handles s.cutTitles := by
  rw [State.cutTitles_eq]
  exact State.settleEach_settles _ List.nodup_range' len

theorem State.cutTitles_frees (s : State) : s.Frees cutWork handles s.cutTitles := by
  rw [State.cutTitles_eq]
  exact State.settleEach_frees _ List.nodup_range' s

theorem State.cutTitles_reports (s : State) : s.Reports (· = .titleActivity) s.cutTitles := by
  unfold State.cutTitles
  refine .foldl _ (fun s h => ?_) s _
  split
  · exact .refl _ s
  · split
    · exact s.settleTitle_reports h _
    · exact .refl _ s

theorem State.cutTitles_stg (s : State) : s.cutTitles.stg = s.stg := by
  rw [State.cutTitles_eq]
  generalize handles = hs
  induction hs generalizing s with
  | nil => rfl
  | cons h rest ih =>
    rw [List.foldl_cons, ih]
    unfold State.settleWork
    split
    · rfl
    · exact (s.settleTitle_frame h _).2.2.1

end Sys2Proof.Machine
end

section
/-! ## RESET TITLES and CUT ALL (04 R75, 05 R98) -/

namespace Sys2Proof.Machine

open Sys2Proof

/-! ### RESET TITLES -/

theorem exec_resetTitles {s : State} (w : s.Performs) :
    exec .resetTitles s = .next (finish 0x16 (doResetTitles s.openCommand)) :=
  congrArg Host.Outcome.next (State.commandRow_performed w 0x16 doResetTitles)

/-- A TALLY line returns to INPUT and begins afresh, and an INPUT line stays (04 R75, 09 R160). -/
theorem CueLine.resetTally_eq (l : CueLine) :
    l.resetTally =
      { role := .input
        previous := if l.role = .input then l.previous else none
        qualified := if l.role = .input then l.qualified else .unknown } := by
  obtain ⟨role, previous, qualified⟩ := l
  cases role <;> rfl

theorem doResetTitles_eq (s : State) :
    doResetTitles s =
      ({ s with
        titles := List.replicate s.titles.length none
        aq := { entries := [], held := false }
        clu := s.clu.map CueLine.resetTally
        cpr := { s.cpr with
          notices := List.replicate s.cpr.notices.length NoticeSet.empty
          events := s.cpr.events.without .titleActivity } }, Reply.good []) := by
  rw [doResetTitles, State.clearAllNotices_eq, List.map_const']

/-! ### CUT ALL does not read what the port collects and answers -/

/-- The port with nothing collected and no result waiting. -/
def State.quietPort (s : State) : State :=
  { s with cpr := { s.cpr with collecting := none, results := [] } }

theorem State.openCommand_eq (s : State) : s.openCommand = s.abandoning.quietPort := rfl

theorem State.quietPort_setTitle (s : State) (h : Nat) (t : Option Title) :
    s.quietPort.setTitle h t = (s.setTitle h t).quietPort := by
  simp only [State.setTitle, State.quietPort]
  split <;> rfl

theorem State.quietPort_notify (s : State) (h : Nat) (n : Notice) :
    s.quietPort.notify h n = (s.notify h n).quietPort := by
  simp only [State.notify, State.setNotices, State.raise, State.quietPort, State.noticeSet]
  split <;> rfl

theorem State.quietPort_notifyAll (s : State) (h : Nat) (ns : List Notice) :
    s.quietPort.notifyAll h ns = (s.notifyAll h ns).quietPort := by
  induction ns generalizing s with
  | nil => rfl
  | cons n rest ih =>
    simp only [State.notifyAll, List.foldl_cons, State.quietPort_notify] at ih ⊢
    exact ih _

theorem State.quietPort_settleTitle (s : State) (h : Nat) (w : TitleWork) :
    s.quietPort.settleTitle h w = (s.settleTitle h w).quietPort := by
  simp only [State.settleTitle_eq, State.quietPort_setTitle, State.quietPort_notifyAll]
  cases retires w with
  | false => rfl
  | true =>
    simp only [if_true, State.freeRecord, State.quietPort_setTitle]
    rfl

theorem State.quietPort_settleWork (s : State) (work : Title → TitleWork) (h : Nat) :
    s.quietPort.settleWork work h = (s.settleWork work h).quietPort := by
  have same : s.quietPort.title h = s.title h := rfl
  unfold State.settleWork
  rw [same]
  cases s.title h with
  | none => rfl
  | some r => exact s.quietPort_settleTitle h _

theorem State.quietPort_cutTitles (s : State) : s.quietPort.cutTitles = s.cutTitles.quietPort := by
  rw [State.cutTitles_eq, State.cutTitles_eq]
  generalize handles = hs
  induction hs generalizing s with
  | nil => rfl
  | cons h rest ih => rw [List.foldl_cons, List.foldl_cons, State.quietPort_settleWork, ih]

theorem State.quietPort_answered (s : State) (code : Byte) (r : Reply) :
    s.quietPort.answered code r = s.answered code r := rfl

theorem exec_cutAll {s : State} (w : s.Performs) :
    exec .cutAll s = .next (s.abandoning.cutTitles.answered 0x27 (Reply.good [])) := by
  have row : exec .cutAll s = .next (finish 0x27 (doCutAll s.openCommand)) :=
    congrArg Host.Outcome.next (State.commandRow_performed w 0x27 doCutAll)
  rw [row, doCutAll, State.openCommand_eq, State.quietPort_cutTitles, finish_eq_answered _ _ _ rfl,
    State.quietPort_answered]

/-! ### What CUT ALL leaves (05 R92, R98, R100, 04 R71, R72) -/

theorem AmendmentQueue.eq_mk {q : AmendmentQueue} {entries : List Entry} {held : Bool} (same : q.entries = entries)
    (sameHeld : q.held = held) : q = { entries := entries, held := held } := by
  rw [← same, ← sameHeld]

theorem mem_cutWork_iff (t : Title) (n : Notice) : n ∈ (cutWork t).2 ↔ n = .done ∧ t.phase.isShowing = true := by
  cases showing : t.phase.isShowing with
  | true => simp [cutWork_showing showing]
  | false => simp [cutWork_other showing]

theorem cutWork_notices_ne_nil_iff (t : Title) : (cutWork t).2 ≠ [] ↔ t.phase.isShowing = true := by
  cases showing : t.phase.isShowing with
  | true => simp [cutWork_showing showing]
  | false => simp [cutWork_other showing]

section

variable {s : State} (titles : s.titles.length = 24)
include titles

/-- CUT ALL does its work on every live record, and on no free one. -/
theorem State.cutTitles_title (h : Nat) :
    s.cutTitles.title h = (s.title h).bind fun r => remains (cutWork r) := by
  rw [s.cutTitles_frees.title]
  cases live : s.title h with
  | none => simp
  | some r => rw [if_pos (State.title_some_handles titles live)]

theorem State.cutTitles_line (n : Fin 4) :
    s.cutTitles.clu.get n =
      (s.clu.get n).releasedBy fun h => (s.title h).any fun r => r.phase.isShowing && r.autoRetire := by
  rw [s.cutTitles_frees.line]
  congr 1
  funext h
  cases live : s.title h with
  | none => simp
  | some r => simp [State.title_some_handles titles live, retires_cutWork]

variable (notices : s.cpr.notices.length = 24)
include notices

theorem State.cutTitles_noticeSet_has (h : Nat) (n : Notice) :
    (s.cutTitles.noticeSet h).has n = true ↔
      (s.noticeSet h).has n = true ∨ (n = .done ∧ ∃ t, s.title h = some t ∧ t.phase.isShowing = true) := by
  rw [(State.cutTitles_settles (titles.trans notices.symm)).notice]
  simp only [mem_cutWork_iff]
  refine or_congr_right ⟨fun ⟨_, t, live, done, showing⟩ => ⟨done, t, live, showing⟩,
    fun ⟨done, t, live, showing⟩ => ⟨State.title_some_handles titles live, t, live, done, showing⟩⟩

theorem State.cutTitles_has (k : EventKind) :
    s.cutTitles.cpr.events.has k = true ↔
      s.cpr.events.has k = true ∨
        (k = .titleActivity ∧ s.cpr.enables.has .titleActivity = true ∧
          ∃ h t, s.title h = some t ∧ t.phase.isShowing = true) := by
  by_cases activity : k = .titleActivity
  · subst activity
    rw [(State.cutTitles_settles (titles.trans notices.symm)).activity]
    simp only [cutWork_notices_ne_nil_iff, true_and]
    refine or_congr_right (and_congr_right fun _ => ⟨fun ⟨h, _, t, found⟩ => ⟨h, t, found⟩,
      fun ⟨h, t, live, showing⟩ => ⟨h, State.title_some_handles titles live, t, live, showing⟩⟩)
  · rw [s.cutTitles_reports.kept k activity]
    simp [activity]

theorem State.cutTitles_aq :
    s.cutTitles.aq =
      { s.aq with entries := s.aq.entries.filter fun e =>
          match s.title e.handle with
          | none => true
          | some t => !(t.phase.isShowing && t.autoRetire) } := by
  refine AmendmentQueue.eq_mk ?_ s.cutTitles_core.held
  rw [(State.cutTitles_settles (titles.trans notices.symm)).entries]
  refine List.filter_congr fun e _ => ?_
  cases live : s.title e.handle with
  | none => simp
  | some r => simp [State.title_some_handles titles live, retires_cutWork]

end

/-- Settles O43: RESET TITLES item by item, and CUT ALL as the settling of the work of every title. -/
theorem resetTitlesAndCutAll : Obligations.ResetTitlesAndCutAll := by
  intro s w
  refine ⟨?reset, exec_cutAll w, ?cut⟩
  case reset =>
    intro line
    rw [exec_resetTitles w, doResetTitles_eq, finish_eq_answered _ _ _ rfl, CueLines.map, CueLine.resetTally_eq,
      CueLine.resetTally_eq, CueLine.resetTally_eq, CueLine.resetTally_eq]
    rfl
  case cut =>
    intro titles notices c retired
    have frame := s.abandoning.cutTitles_core.frame s.abandoning.cutTitles_stg s.abandoning.cutTitles_reports.port
    have noticed := State.cutTitles_noticeSet_has (s := s.abandoning) titles notices
    have events := State.cutTitles_has (s := s.abandoning) titles notices
    have aq := State.cutTitles_aq (s := s.abandoning) titles notices
    have title (h : Nat) : c.title h = (s.title h).bind fun r => remains (cutWork r) :=
      State.cutTitles_title (s := s.abandoning) titles h
    have line (n : Fin 4) :
        c.clu.get n = (s.clu.get n).releasedBy fun h => (s.title h).any fun r => r.phase.isShowing && r.autoRetire :=
      State.cutTitles_line (s := s.abandoning) titles n
    have named : c = s.abandoning.cutTitles := rfl
    clear_value c
    rw [← named] at frame noticed events aq
    refine ⟨fun h => ⟨fun free => ?_, fun t live => ⟨fun other => ?_, fun both => ?_, fun showing stays => ?_⟩⟩,
      noticed, events, aq, fun n => ⟨fun ⟨h, t, tally, live, both⟩ => ?_, fun none => ?_⟩, frame⟩
    · rw [title, free]; rfl
    · rw [title, live, Option.bind_some, cutWork_other other]; rfl
    · rw [title, live, Option.bind_some, remains, retires_cutWork, both.1, both.2]; rfl
    · have kept : retires (cutWork t) = false := by rw [retires_cutWork, stays, Bool.and_false]
      rw [title, live, Option.bind_some, remains, kept, cutWork_showing showing]; rfl
    · rw [line, CueLine.releasedBy_of_tally tally, live, Option.any_some, both.1, both.2]; rfl
    · rw [line]
      cases role : (s.clu.get n).role with
      | input => exact CueLine.releasedBy_of_input role _
      | tally h =>
        rw [CueLine.releasedBy_of_tally role, if_neg]
        cases live : s.title h with
        | none => simp
        | some t => simpa [retired] using none h t role live

end Sys2Proof.Machine
end

section
/-! ## The cue lines at a line start (04 R71, 05 R99, 09 R156 to R158) -/

namespace Sys2Proof.Machine

open Sys2Proof

/-! ### The debounce of one line (09 R156) -/

theorem CueLine.sampled_again {l : CueLine} {sample : Level} (again : l.previous = some sample) :
    (l.sampled sample).qualified = if sample = .low then .low else .high := by
  rw [CueLine.sampled, if_pos again]
  cases sample <;> rfl

theorem CueLine.sampled_changed {l : CueLine} {sample : Level} (changed : l.previous ≠ some sample) :
    (l.sampled sample).qualified = l.qualified := by
  rw [CueLine.sampled, if_neg changed]

@[simp] theorem CueLine.sampled_role (l : CueLine) (sample : Level) : (l.sampled sample).role = l.role := rfl

/-- An edge is a qualified change from HIGH to LOW of an INPUT line: the second LOW running of a line that stands HIGH. -/
theorem CueLine.hasEdge_iff (l : CueLine) (sample : Level) :
    l.hasEdge sample = true ↔
      l.role = .input ∧ l.qualified = .high ∧ sample = .low ∧ l.previous = some .low := by
  have low : l.qualified = .high →
      ((l.sampled sample).qualified = .low ↔ sample = .low ∧ l.previous = some .low) := by
    intro high
    by_cases again : l.previous = some sample
    · rw [CueLine.sampled_again again, again]
      cases sample <;> simp
    · rw [CueLine.sampled_changed again, high]
      refine iff_of_false (by simp) ?_
      rintro ⟨rfl, twice⟩
      exact again twice
  simp only [CueLine.hasEdge, Bool.and_eq_true, beq_iff_eq, and_assoc]
  exact and_congr_right fun _ => and_congr_right fun high => low high

/-! ### The level that a line reads (09 R156, R158) -/

/-- The level of a line in TALLY for a record, under the level outside. -/
def tallyLevel (outside : Level) (r : Option Title) : Level :=
  if (r.map fun r => r.phase.isShowing) = some true then .low else outside

/-- The drive of a line follows the phase of its title alone. -/
theorem tallyLevel_congr {outside : Level} {r r' : Option Title} (phases : r.map Title.phase = r'.map Title.phase) :
    tallyLevel outside r = tallyLevel outside r' := by
  have showing (r : Option Title) : (r.map fun r => r.phase.isShowing) = (r.map Title.phase).map Phase.isShowing := by
    cases r <;> rfl
  rw [tallyLevel, tallyLevel, showing, showing, phases]

theorem State.cuePin_of_input {s : State} {n : Fin 4} (input : (s.clu.get n).role = .input) :
    s.cuePin n = cueLevel s.pins.cues n := by
  simp [State.cuePin, State.driveLow, input]

theorem State.cuePin_of_tally {s : State} (up : s.pins.resetLow = false) {n : Fin 4} {g : Nat}
    (tally : (s.clu.get n).role = .tally g) : s.cuePin n = tallyLevel (cueLevel s.pins.cues n) (s.title g) := by
  cases live : s.title g <;> simp [State.cuePin, State.driveLow, tallyLevel, tally, live, up]

/-! ### The phases that a commit and the cue work leave (07 R129, 05 R99) -/

theorem State.setTitle_phase {s : State} {h : Nat} {t u : Title} (live : s.title h = some t) (phase : u.phase = t.phase)
    (g : Nat) : ((s.setTitle h (some u)).title g).map Title.phase = (s.title g).map Title.phase := by
  by_cases same : g = h
  · obtain ⟨pos, le⟩ := State.title_some_bounds live
    rw [same, State.title_setTitle_same s pos le, live, Option.map_some, Option.map_some, phase]
  · rw [State.title_setTitle_other s same]

theorem applyEntry_phase (acc : State × Bool) (e : Entry) (g : Nat) :
    ((applyEntry acc e).1.title g).map Title.phase = (acc.1.title g).map Title.phase := by
  obtain ⟨s, written⟩ := acc
  obtain ⟨-, eq⟩ | ⟨-, -, eq⟩ | ⟨t, -, live, -, eq⟩ | ⟨t, -, -, -, eq⟩ := applyEntry_cases s written e <;> rw [eq]
  · rfl
  · exact State.setTitle_phase live (t.write_phase _ _ _) g
  · rw [State.title_congr (t := s.notify e.handle .dropped) (s := s) (by simp)]

theorem applyEntries_phase (es : List Entry) (acc : State × Bool) (g : Nat) :
    ((es.foldl applyEntry acc).1.title g).map Title.phase = (acc.1.title g).map Title.phase := by
  induction es generalizing acc with
  | nil => rfl
  | cons e rest ih => exact (ih _).trans (applyEntry_phase acc e g)

theorem State.commit_phase (s : State) (g : Nat) :
    (s.commit.title g).map Title.phase = (s.title g).map Title.phase := by
  by_cases idle : s.aq.held = true ∨ s.aq.entries = []
  · rw [State.commit_of_idle idle]
  · rw [State.commit_of_waiting idle]
    dsimp only
    split <;> exact applyEntries_phase s.aq.entries (s, false) g

theorem State.committedAt_phase (s : State) (g : Nat) :
    (s.committedAt.title g).map Title.phase = (s.title g).map Title.phase := by
  unfold State.committedAt
  split
  · exact s.commit_phase g
  · rfl

theorem State.builtLine_phase (s : State) (cues : CueLevels) (g : Nat) :
    ((s.builtLine cues).title g).map Title.phase = (s.title g).map Title.phase := by
  obtain ⟨titles, -⟩ := s.builtLine_blocks cues
  rw [State.title_congr titles, State.committedAt_phase]

theorem State.cueWork_phase (s : State) (g : Nat) :
    (s.cueWork.title g).map Title.phase = (s.title g).map Title.phase := by
  rw [State.title_of_markAll s.cueWork_titles]
  cases s.title g <;> rfl

/-- Records whose phases are alike are live alike. -/
theorem isSome_of_phase {r r' : Option Title} (phases : r.map Title.phase = r'.map Title.phase) :
    r.isSome = r'.isSome := by
  simpa using congrArg Option.isSome phases

/-! ### The lines that a field step frees (04 R71) -/

/-- A field step releases a line just where it frees the title that the line nominates. -/
theorem State.Frees.line_eq {s t : State} {work : Title → TitleWork} (frees : s.Frees work handles t) (n : Fin 4) :
    t.clu.get n = (s.clu.get n).releasedBy fun g => (s.title g).isSome && (t.title g).isNone := by
  rw [frees.line]
  congr 1
  funext g
  rw [frees.title]
  cases s.title g with
  | none => simp
  | some r =>
    by_cases inTable : g ∈ handles
    · cases freed : retires (work r) <;> simp [inTable, remains, freed]
    · simp [inTable]

/-! ### One line at a line start (09 R156 to R158) -/

section

variable {s : State} (up : s.pins.resetLow = false) (cues : CueLevels)

theorem State.builtLine_cuePin_input {n : Fin 4} (input : (s.clu.get n).role = .input) :
    (s.builtLine cues).cuePin n = cueLevel cues n := by
  obtain ⟨-, -, clu, -, pins, -⟩ := s.builtLine_blocks cues
  rw [State.cuePin_of_input (by rw [clu]; exact input), pins]

include up

theorem State.builtLine_cuePin_tally {n : Fin 4} {g : Nat} (tally : (s.clu.get n).role = .tally g) :
    (s.builtLine cues).cuePin n = tallyLevel (cueLevel cues n) (s.title g) := by
  obtain ⟨-, -, clu, -, pins, -⟩ := s.builtLine_blocks cues
  rw [State.cuePin_of_tally (by rw [pins]; exact up) (by rw [clu]; exact tally), pins,
    tallyLevel_congr (s.builtLine_phase cues g)]

end

/-- Without a field step the lines take their samples, and no title is freed. -/
theorem State.lineStart_noStep {s : State} (noStep : s.stepsField = false) (cues : CueLevels) (cueFirst : Bool) :
    (∀ n, (s.lineStart cues cueFirst).clu.get n = (s.clu.get n).sampled ((s.builtLine cues).cuePin n)) ∧
    ∀ g, ((s.lineStart cues cueFirst).title g).isSome = (s.title g).isSome := by
  obtain ⟨-, -, clu, -⟩ := s.builtLine_blocks cues
  rw [State.lineStart_cases, noStep]
  exact ⟨fun n => by rw [if_neg (by simp), State.cueWork_get, clu],
    fun g => isSome_of_phase ((State.cueWork_phase _ g).trans (s.builtLine_phase cues g))⟩

/-- Before a field step the lines take their samples, and then the step releases those of the titles it frees. -/
theorem State.lineStart_cueFirst {s : State} (steps : s.stepsField = true) (cues : CueLevels) (n : Fin 4) :
    (s.lineStart cues true).clu.get n =
      ((s.clu.get n).sampled ((s.builtLine cues).cuePin n)).releasedBy fun g =>
        (s.title g).isSome && ((s.lineStart cues true).title g).isNone := by
  obtain ⟨-, -, clu, -⟩ := s.builtLine_blocks cues
  have run : s.lineStart cues true = (s.builtLine cues).cueWork.fieldStep := by
    rw [State.lineStart_cases, if_pos steps, if_pos rfl]
  have live (g : Nat) : ((s.builtLine cues).cueWork.title g).isSome = (s.title g).isSome :=
    isSome_of_phase ((State.cueWork_phase _ g).trans (s.builtLine_phase cues g))
  rw [run, (State.fieldStep_frees _).line_eq, State.cueWork_get, clu]
  simp only [live]

theorem State.lineStart_stepFirst {s : State} (steps : s.stepsField = true) (cues : CueLevels) :
    s.lineStart cues false = (s.builtLine cues).fieldStep.cueWork := by
  rw [State.lineStart_cases, if_pos steps, if_neg Bool.false_ne_true]

/-- The lines after a field step that comes first, before their samples. -/
theorem State.steppedLine_get {s : State} (steps : s.stepsField = true) (cues : CueLevels) (n : Fin 4) :
    (s.builtLine cues).fieldStep.clu.get n =
      (s.clu.get n).releasedBy fun g => (s.title g).isSome && ((s.lineStart cues false).title g).isNone := by
  obtain ⟨-, -, clu, -⟩ := s.builtLine_blocks cues
  have before (g : Nat) : ((s.builtLine cues).title g).isSome = (s.title g).isSome :=
    isSome_of_phase (s.builtLine_phase cues g)
  have after (g : Nat) : ((s.builtLine cues).fieldStep.title g).isNone = ((s.lineStart cues false).title g).isNone := by
    rw [State.lineStart_stepFirst steps, ← Option.not_isSome, ← Option.not_isSome,
      isSome_of_phase (State.cueWork_phase _ g)]
  rw [(State.fieldStep_frees _).line_eq, clu]
  simp only [before, after]

theorem State.steppedLine_pins (s : State) (cues : CueLevels) :
    (s.builtLine cues).fieldStep.pins = { s.pins with cues := cues } := by
  obtain ⟨-, -, -, -, pins, -⟩ := s.builtLine_blocks cues
  rw [(State.fieldStep_core _).pins, pins]

/-- An INPUT line reads the level outside at every line start. -/
theorem State.lineStart_input {s : State} (cues : CueLevels) (cueFirst : Bool) {n : Fin 4}
    (input : (s.clu.get n).role = .input) :
    (s.lineStart cues cueFirst).clu.get n = (s.clu.get n).sampled (cueLevel cues n) := by
  have pin := State.builtLine_cuePin_input cues input
  cases steps : s.stepsField with
  | false => rw [(State.lineStart_noStep steps cues cueFirst).1, pin]
  | true =>
    cases cueFirst with
    | true => rw [State.lineStart_cueFirst steps, pin, CueLine.releasedBy_of_input (by simpa using input)]
    | false =>
      have line : (s.builtLine cues).fieldStep.clu.get n = s.clu.get n := by
        rw [State.steppedLine_get steps, CueLine.releasedBy_of_input input]
      rw [State.lineStart_stepFirst steps, State.cueWork_get, State.cuePin_of_input (by rw [line]; exact input), line,
        State.steppedLine_pins]

/-- A TALLY line reads the level of its title, unless the line start frees the title. -/
theorem State.lineStart_tally_kept {s : State} (up : s.pins.resetLow = false) (cues : CueLevels) (cueFirst : Bool)
    {n : Fin 4} {g : Nat} (tally : (s.clu.get n).role = .tally g)
    (kept : ¬(s.title g ≠ none ∧ (s.lineStart cues cueFirst).title g = none)) :
    (s.lineStart cues cueFirst).clu.get n =
      (s.clu.get n).sampled
        (tallyLevel (cueLevel cues n)
          (if s.stepsField = true ∧ cueFirst = false then (s.lineStart cues cueFirst).title g else s.title g)) := by
  have pin := State.builtLine_cuePin_tally up cues tally
  have notFreed : ((s.title g).isSome && ((s.lineStart cues cueFirst).title g).isNone) = false := by
    rw [← Bool.not_eq_true]
    simpa [Option.isSome_iff_ne_none] using kept
  cases steps : s.stepsField with
  | false => rw [(State.lineStart_noStep steps cues cueFirst).1, pin, if_neg (by simp)]
  | true =>
    cases cueFirst with
    | true =>
      rw [State.lineStart_cueFirst steps, pin, CueLine.releasedBy_of_tally (h := g) (by simpa using tally), notFreed,
        if_neg Bool.false_ne_true, if_neg (by simp)]
    | false =>
      have line : (s.builtLine cues).fieldStep.clu.get n = s.clu.get n := by
        rw [State.steppedLine_get steps, CueLine.releasedBy_of_tally tally, notFreed, if_neg Bool.false_ne_true]
      rw [if_pos ⟨rfl, rfl⟩, State.lineStart_stepFirst steps, State.cueWork_get,
        State.cuePin_of_tally (by rw [State.steppedLine_pins]; exact up) (by rw [line]; exact tally), line,
        State.steppedLine_pins, tallyLevel_congr (State.cueWork_phase _ g)]

/-- A TALLY line whose title the line start frees is an INPUT line begun afresh, before or after its sample. -/
theorem State.lineStart_tally_freed {s : State} (cues : CueLevels) (cueFirst : Bool) {n : Fin 4} {g : Nat}
    (tally : (s.clu.get n).role = .tally g) (live : s.title g ≠ none)
    (gone : (s.lineStart cues cueFirst).title g = none) :
    (s.lineStart cues cueFirst).clu.get n =
      if cueFirst then CueLine.retaken .input else (CueLine.retaken .input).sampled (cueLevel cues n) := by
  have wasLive : (s.title g).isSome = true := Option.isSome_iff_ne_none.mpr live
  have freed : ((s.title g).isSome && ((s.lineStart cues cueFirst).title g).isNone) = true := by
    rw [wasLive, gone]; rfl
  cases steps : s.stepsField with
  | false =>
    have stays := (State.lineStart_noStep steps cues cueFirst).2 g
    rw [gone, wasLive] at stays
    cases stays
  | true =>
    cases cueFirst with
    | true =>
      rw [State.lineStart_cueFirst steps, CueLine.releasedBy_of_tally (h := g) (by simpa using tally), freed]
      rfl
    | false =>
      have line : (s.builtLine cues).fieldStep.clu.get n = CueLine.retaken .input := by
        rw [State.steppedLine_get steps, CueLine.releasedBy_of_tally tally, freed, if_pos rfl]
      rw [State.lineStart_stepFirst steps, State.cueWork_get, State.cuePin_of_input (by rw [line]; rfl), line,
        State.steppedLine_pins]
      rfl

/-- An edge of a line raises its event, on either side of a field step (09 R157). -/
theorem State.lineStart_has_cue (s : State) (cues : CueLevels) (cueFirst : Bool) (n : Fin 4) :
    (s.lineStart cues cueFirst).cpr.events.has (.cue n) =
      (s.cpr.events.has (.cue n) ||
        ((s.clu.get n).hasEdge (cueLevel cues n) && s.cpr.enables.has (.cue n))) := by
  obtain ⟨-, -, clu, -, pins, -, enables, -⟩ := s.builtLine_blocks cues
  have sampled : (s.builtLine cues).cueWork.cpr.events.has (.cue n) =
      (s.cpr.events.has (.cue n) ||
        ((s.clu.get n).hasEdge (cueLevel cues n) && s.cpr.enables.has (.cue n))) := by
    rw [State.cueWork_has_cue, State.builtLine_has_cue, State.hasEdge_cuePin, clu, pins, enables]
  cases steps : s.stepsField with
  | false => rw [State.lineStart_cases, steps, if_neg Bool.false_ne_true, sampled]
  | true =>
    cases cueFirst with
    | true =>
      rw [State.lineStart_cases, steps, if_pos rfl, if_pos rfl, (State.fieldStep_reports _).kept _ (by simp), sampled]
    | false =>
      rw [State.lineStart_stepFirst steps, State.cueWork_has_cue, State.hasEdge_cuePin, State.steppedLine_get steps,
        CueLine.releasedBy_hasEdge, State.steppedLine_pins, (State.fieldStep_reports _).kept _ (by simp),
        State.builtLine_has_cue, (State.fieldStep_reports _).enables, enables]

/-! ### The marks of the edges (05 R99) -/

theorem Title.markedBy_start {r : Title} {n : Fin 4} (armed : r.phase = .armed) (onLine : r.start = .cue n)
    (edge : Fin 4 → Bool) :
    (r.markedBy edge).marks = { r.marks with go := r.marks.go || edge n } := by
  simp [Title.markedBy, armed, onLine]

theorem Title.markedBy_ending {r : Title} {n : Fin 4} (dwell : r.phase = .showing .dwell) (onLine : r.ending = .cue n)
    (edge : Fin 4 → Bool) :
    (r.markedBy edge).marks = { r.marks with endMark := r.marks.endMark || edge n } := by
  simp [Title.markedBy, dwell, onLine]

theorem Title.markedBy_other {r : Title} (start : r.phase = .armed → ∀ n, r.start ≠ .cue n)
    (ending : r.phase = .showing .dwell → ∀ n, r.ending ≠ .cue n) (edge : Fin 4 → Bool) :
    (r.markedBy edge).marks = r.marks := by
  have noStart : ¬(r.phase = .armed ∧ ∃ n, r.start = .cue n ∧ edge n = true) :=
    fun ⟨armed, n, onLine, _⟩ => start armed n onLine
  have noEnding : ¬(r.phase = .showing .dwell ∧ ∃ n, r.ending = .cue n ∧ edge n = true) :=
    fun ⟨dwell, n, onLine, _⟩ => ending dwell n onLine
  simp only [Title.markedBy, noStart, noEnding, decide_false, Bool.or_false]

/-- Settles O27: the debounce, the line start by role and by whether the title is freed, and the marks. -/
theorem cueLevelsQualifyAndEdgesMarkTitles : Obligations.CueLevelsQualifyAndEdgesMarkTitles := by
  refine ⟨fun l sample => ⟨rfl, rfl, CueLine.sampled_again, CueLine.sampled_changed, l.hasEdge_iff sample⟩,
    fun s t cues cueFirst run _ n => ?line, fun edge r => ?marks⟩
  case line =>
    have up : s.pins.resetLow = false := by
      rw [exec_lineStart, whenDue_eq_next_iff] at run
      exact (s.lineStartDue_iff.mp run.1).1
    obtain rfl := exec_lineStart_next run
    refine ⟨State.lineStart_input cues cueFirst, fun g tally => ⟨State.lineStart_tally_kept up cues cueFirst tally,
      fun ⟨live, gone⟩ first => ?_, fun ⟨live, gone⟩ last => ?_⟩, ?_⟩
    · rw [State.lineStart_tally_freed cues cueFirst tally live gone, first]; rfl
    · rw [State.lineStart_tally_freed cues cueFirst tally live gone, last]; rfl
    · rw [State.lineStart_has_cue, Bool.or_eq_true, Bool.and_eq_true]
  case marks =>
    refine ⟨rfl, rfl, fun n armed onLine => ?_, fun n dwell onLine => ?_, fun start ending => ?_⟩
    · rw [Title.markedBy_start armed onLine]; exact ⟨rfl, rfl⟩
    · rw [Title.markedBy_ending dwell onLine]; exact ⟨rfl, rfl⟩
    · exact Title.markedBy_other start ending edge

end Sys2Proof.Machine
end

section
/-! ## CREATE TITLE (04 R58 to R66) -/

namespace Sys2Proof.Machine

open Sys2Proof

/-! ### The first field of an ascending list that meets a test -/

/-- The key `k` stands in the list with a value that meets the test. -/
def MeetsAt {β : Type} (test : Nat × β → Bool) (l : List (Nat × β)) (k : Nat) : Prop :=
  ∃ v, (k, v) ∈ l ∧ test (k, v) = true

theorem meetsAt_nil {β : Type} (test : Nat × β → Bool) (k : Nat) : MeetsAt test [] k ↔ False := by
  simp [MeetsAt]

theorem meetsAt_cons {β : Type} (test : Nat × β → Bool) (j : Nat) (v : β) (l : List (Nat × β)) (k : Nat) :
    MeetsAt test ((j, v) :: l) k ↔ (k = j ∧ test (j, v) = true) ∨ MeetsAt test l k := by
  constructor
  · rintro ⟨u, mem, meets⟩
    rcases List.mem_cons.mp mem with same | mem
    · cases same; exact .inl ⟨rfl, meets⟩
    · exact .inr ⟨u, mem, meets⟩
  · rintro (⟨rfl, meets⟩ | ⟨u, mem, meets⟩)
    · exact ⟨v, List.mem_cons_self, meets⟩
    · exact ⟨u, List.mem_cons_of_mem _ mem, meets⟩

theorem meetsAt_append {β : Type} (test : Nat × β → Bool) (l m : List (Nat × β)) (k : Nat) :
    MeetsAt test (l ++ m) k ↔ MeetsAt test l k ∨ MeetsAt test m k := by
  simp [MeetsAt, or_and_right, exists_or]

theorem meetsAt_ite {β : Type} (test : Nat × β → Bool) (c : Prop) [Decidable c] (l m : List (Nat × β)) (k : Nat) :
    MeetsAt test (if c then l else m) k ↔ (c ∧ MeetsAt test l k) ∨ (¬c ∧ MeetsAt test m k) := by
  split <;> simp_all

theorem map_fst_find?_of_least {β : Type} {l : List (Nat × β)} (ascending : l.Pairwise fun a b => a.1 < b.1)
    {test : Nat × β → Bool} {k : Nat} (meets : MeetsAt test l k) (least : ∀ j < k, ¬MeetsAt test l j) :
    (l.find? test).map Prod.fst = some k := by
  obtain ⟨v, mem, holds⟩ := meets
  obtain ⟨⟨j, u⟩, found⟩ := Option.isSome_iff_exists.mp (List.find?_isSome.mpr ⟨(k, v), mem, holds⟩)
  obtain ⟨testj, before, after, rfl, failed⟩ := List.find?_eq_some_iff_append.mp found
  have notBelow : ¬j < k := fun lt => least j lt ⟨u, by simp, testj⟩
  have notAbove : ¬k < j := by
    intro lt
    rcases List.mem_append.mp mem with early | late
    · exact absurd holds (by simpa using failed _ early)
    · rcases List.mem_cons.mp late with same | late
      · exact absurd (congrArg Prod.fst same) (by simpa using lt.ne)
      · have := (List.pairwise_cons.mp (List.pairwise_append.mp ascending).2.1).1 _ late
        exact absurd this (by simpa using lt.le)
  rw [found, Option.map_some, show j = k by omega]

theorem map_fst_find?_of_none {β : Type} {l : List (Nat × β)} {test : Nat × β → Bool}
    (none : ∀ k, ¬MeetsAt test l k) : (l.find? test).map Prod.fst = Option.none := by
  rw [List.find?_eq_none.mpr fun x mem holds => none x.1 ⟨x.2, mem, holds⟩, Option.map_none]

/-! ### Choice codes (04, "Choice codes") -/

theorem FieldMask.ofCode_isSome (v : Nat) : (FieldMask.ofCode v).isSome = decide (v ≤ 2) := by
  unfold FieldMask.ofCode; split <;> simp_all; omega

theorem KeySense.ofCode_isSome (v : Nat) : (KeySense.ofCode v).isSome = decide (v ≤ 1) := by
  unfold KeySense.ofCode; split <;> simp_all; omega

theorem SideApproach.ofCode_isSome (v : Nat) : (SideApproach.ofCode v).isSome = decide (v ≤ 1) := by
  unfold SideApproach.ofCode; split <;> simp_all; omega

theorem VertApproach.ofCode_isSome (v : Nat) : (VertApproach.ofCode v).isSome = decide (v = 2 ∨ v = 3) := by
  unfold VertApproach.ofCode; split <;> simp_all

theorem cueOfCode_isSome (v : Nat) : (cueOfCode v).isSome = decide (1 ≤ v ∧ v ≤ 4) := by
  unfold cueOfCode; split <;> simp_all; omega

theorem cueOfCode_succ (n : Fin 4) : cueOfCode (n.val + 1) = some n := by
  revert n; decide

theorem StartCond.ofCode_isSome (number v : Nat) : (StartCond.ofCode number v).isSome = decide (v ≤ 5) := by
  unfold StartCond.ofCode
  split
  · rfl
  · rfl
  next not0 not5 =>
    have : v ≠ 0 ∧ v ≠ 5 := ⟨not0, not5⟩
    rw [Option.isSome_map, cueOfCode_isSome, decide_eq_decide]; omega

theorem StartCond.ofCode_cue (number : Nat) (n : Fin 4) : StartCond.ofCode number (n.val + 1) = some (.cue n) := by
  revert n; simp [Fin.forall_fin_succ, StartCond.ofCode, cueOfCode]

theorem EndCond.ofCode_isSome (v : Nat) : (EndCond.ofCode v).isSome = decide (v ≤ 5) := by
  unfold EndCond.ofCode
  split
  · rfl
  · rfl
  next not0 not5 =>
    have : v ≠ 0 ∧ v ≠ 5 := ⟨not0, not5⟩
    rw [Option.isSome_map, cueOfCode_isSome, decide_eq_decide]; omega

theorem EndCond.ofCode_cue (n : Fin 4) : EndCond.ofCode (n.val + 1) = some (.cue n) := by
  revert n; decide

theorem Exit.ofCode_isSome (v : Nat) : (Exit.ofCode v).isSome = decide (v ≤ 2) := by
  unfold Exit.ofCode; split <;> simp_all; omega

theorem flagOfCode_isSome (v : Nat) : (flagOfCode v).isSome = decide (v ≤ 1) := by
  unfold flagOfCode; split <;> simp_all; omega

theorem FieldMask.ofCode_getD (v : Nat) :
    (FieldMask.ofCode v).getD .both = if v = 1 then .a else if v = 2 then .b else .both := by
  unfold FieldMask.ofCode; split <;> simp_all

theorem KeySense.ofCode_getD (v : Nat) : (KeySense.ofCode v).getD .normal = if v = 1 then .inverse else .normal := by
  unfold KeySense.ofCode; split <;> simp_all

theorem SideApproach.ofCode_getD (v : Nat) :
    (SideApproach.ofCode v).getD .fromLeft = if v = 1 then .fromRight else .fromLeft := by
  unfold SideApproach.ofCode; split <;> simp_all

theorem VertApproach.ofCode_getD (v : Nat) :
    (VertApproach.ofCode v).getD .fromBelow = if v = 2 then .fromAbove else .fromBelow := by
  unfold VertApproach.ofCode; split <;> simp_all

theorem Exit.ofCode_getD (v : Nat) :
    (Exit.ofCode v).getD .cut = if v = 1 then .fade else if v = 2 then .reverse else .cut := by
  unfold Exit.ofCode; split <;> simp_all

theorem flagOfCode_getD (v : Nat) : (flagOfCode v).getD false = decide (v = 1) := by
  unfold flagOfCode; split <;> simp_all

/-! ### The choices of a block (04 R63) -/

theorem blockChoices_ascending (ps : List Byte) : (blockChoices ps).Pairwise fun a b => a.1 < b.1 := by
  unfold blockChoices
  split
  · simp
  · split <;> simp

theorem outOfChoices_iff (ps : List Byte) (k : Nat) :
    OutOfChoices ps k ↔ MeetsAt (fun c => !c.2) (blockChoices ps) k := by
  simp only [blockChoices, meetsAt_append, meetsAt_ite, meetsAt_cons, meetsAt_nil, FieldMask.ofCode_isSome,
    KeySense.ofCode_isSome, SideApproach.ofCode_isSome, VertApproach.ofCode_isSome, StartCond.ofCode_isSome,
    EndCond.ofCode_isSome, Exit.ofCode_isSome, flagOfCode_isSome, Bool.not_eq_true', decide_eq_false_iff_not,
    or_false, and_false, or_assoc]
  unfold OutOfChoices
  constructor
  · rintro (⟨rfl, out⟩ | ⟨rfl, out⟩ | ⟨rfl, out⟩ | ⟨rfl, side, out⟩ | ⟨rfl, vert, out⟩ | ⟨rfl, out⟩ | ⟨rfl, out⟩ |
      ⟨rfl, out⟩ | ⟨rfl, out⟩)
    all_goals omega
  · rintro (⟨rfl, out⟩ | ⟨rfl, out⟩ | ⟨rfl, out⟩ | ⟨side, rfl, out⟩ | ⟨side, vert, rfl, out⟩ | ⟨rfl, out⟩ | ⟨rfl, out⟩ |
      ⟨rfl, out⟩ | ⟨rfl, out⟩)
    all_goals omega

theorem firstBadChoice_eq_some {ps : List Byte} {k : Nat} (out : OutOfChoices ps k)
    (least : ∀ j < k, ¬OutOfChoices ps j) : firstBadChoice ps = some k := by
  simp only [outOfChoices_iff] at out least
  exact map_fst_find?_of_least (blockChoices_ascending ps) out least

theorem firstBadChoice_eq_none {ps : List Byte} (good : ∀ k, ¬OutOfChoices ps k) : firstBadChoice ps = none := by
  simp only [outOfChoices_iff] at good
  exact map_fst_find?_of_none good

/-! ### The placement of a block (04 R58) -/

theorem blockPlacement_placed (pixTotal : Nat) (ps : List Byte) :
    PlacedBy pixTotal ps (blockPlacement pixTotal ps) where
  prio := clamp_eq_within (by omega) _
  mask := FieldMask.ofCode_getD _
  top := clamp_eq_within (by omega) _
  height := congrArg (min · _) (clamp_eq_within (by omega) _)
  left := congrArg (min · _) (clamp_eq_within (by omega) _)
  width := congrArg (min · _) (clamp_eq_within (by omega) _)

theorem PlacedBy.eq {pixTotal : Nat} {ps : List Byte} {p q : Placement} (hp : PlacedBy pixTotal ps p)
    (hq : PlacedBy pixTotal ps q) : p = q := by
  have top : p.top = q.top := hp.top.trans hq.top.symm
  have height : p.height = q.height := by rw [hp.height, hq.height, top]
  have left : p.left = q.left := hp.left.trans hq.left.symm
  have width : p.width = q.width := by rw [hp.width, hq.width, left]
  have prio : p.prio = q.prio := hp.prio.trans hq.prio.symm
  have mask : p.mask = q.mask := hp.mask.trans hq.mask.symm
  cases p; cases q; cases prio; cases mask; cases top; cases height; cases left; cases width
  rfl

/-- A placement of a block lies within the picture. -/
theorem PlacedBy.bounds {pixTotal : Nat} {ps : List Byte} {p : Placement} (placed : PlacedBy pixTotal ps p)
    (pix : 1 ≤ pixTotal) :
    p.prio ≤ 7 ∧ 16 ≤ p.top ∧ 1 ≤ p.height ∧ p.top + p.height ≤ 313 ∧ 1 ≤ p.width ∧ p.left + p.width ≤ pixTotal := by
  have inRange {lo hi : Nat} (le : lo ≤ hi) (v : Nat) : lo ≤ within lo hi v ∧ within lo hi v ≤ hi := by
    unfold within; split_ifs <;> omega
  have prio := inRange (show 0 ≤ 7 by omega) (byteAt ps 1)
  have top := inRange (show 16 ≤ 312 by omega) (wordAt ps 3)
  have height := inRange (show 1 ≤ 297 by omega) (wordAt ps 5)
  have width := inRange (show 1 ≤ 1024 by omega) (wordAt ps 9)
  rw [← placed.prio] at prio
  rw [← placed.top] at top
  have := placed.height
  have := placed.left
  have := placed.width
  omega

/-! ### The numeric fields of a block (04 R60 to R62, R65) -/

theorem blockClamps_ascending (pixTotal : Nat) (ps : List Byte) :
    (blockClamps pixTotal ps).Pairwise fun a b => a.1 < b.1 := by
  unfold blockClamps
  split <;> split <;> simp

theorem ne_clamp_iff {lo hi : Nat} (le : lo ≤ hi) (v : Nat) : v ≠ clamp lo hi v ↔ v < lo ∨ hi < v := by
  unfold clamp; omega

theorem ne_min_iff (hi v : Nat) : v ≠ min hi v ↔ hi < v := by
  omega

theorem clampedField_iff (pixTotal : Nat) (ps : List Byte) (k : Nat) :
    ClampedField pixTotal ps k ↔ MeetsAt (fun c => c.2.1 != c.2.2) (blockClamps pixTotal ps) k := by
  have placed (Q : Placement → Prop) : (∃ p, PlacedBy pixTotal ps p ∧ Q p) ↔ Q (blockPlacement pixTotal ps) :=
    ⟨fun ⟨p, hp, q⟩ => hp.eq (blockPlacement_placed pixTotal ps) ▸ q,
      fun q => ⟨_, blockPlacement_placed pixTotal ps, q⟩⟩
  simp only [blockClamps, meetsAt_append, meetsAt_ite, meetsAt_cons, meetsAt_nil, bne_iff_ne, blockRamp,
    ne_clamp_iff (show 1 ≤ 4095 by omega), ne_clamp_iff (show 1 ≤ 63 by omega), ne_min_iff,
    or_false, false_or, and_false, or_assoc]
  simp only [ClampedField, placed]
  constructor
  · rintro ((⟨rfl, changed⟩ | ⟨rfl, changed⟩ | ⟨rfl, changed⟩ | ⟨rfl, changed⟩ | ⟨rfl, changed⟩) | ⟨rfl | rfl, high⟩ |
      ⟨rfl, high⟩ | ⟨rfl, high⟩ | ⟨moves, rfl | rfl | rfl | rfl, out⟩ | ⟨reaches, rfl, high⟩ | ⟨rfl, out⟩)
    all_goals simp; omega
  · rintro (⟨rfl, changed⟩ | ⟨rfl, changed⟩ | ⟨rfl, changed⟩ | ⟨rfl, changed⟩ | ⟨rfl, changed⟩ | ⟨rfl, high⟩ |
      ⟨rfl, high⟩ | ⟨rfl, high⟩ | ⟨rfl, high⟩ | ⟨moves, ⟨rfl, out⟩ | ⟨rfl, out⟩ | ⟨rfl, out⟩ | ⟨rfl, out⟩⟩ |
      ⟨reaches, rfl, high⟩ | ⟨rfl, out⟩)
    all_goals simp; omega

theorem firstClamped_eq_some {pixTotal : Nat} {ps : List Byte} {k : Nat} (clamped : ClampedField pixTotal ps k)
    (least : ∀ j < k, ¬ClampedField pixTotal ps j) : firstClamped pixTotal ps = some k := by
  simp only [clampedField_iff] at clamped least
  exact map_fst_find?_of_least (blockClamps_ascending pixTotal ps) clamped least

theorem firstClamped_eq_none {pixTotal : Nat} {ps : List Byte} (kept : ∀ k, ¬ClampedField pixTotal ps k) :
    firstClamped pixTotal ps = none := by
  simp only [clampedField_iff] at kept
  exact map_fst_find?_of_none kept

/-! ### The record that a block fills (04 R60 to R62, R66, 05 R79) -/

theorem min_eq_within (hi v : Nat) : min hi v = within 0 hi v := by
  unfold within; split_ifs <;> omega

theorem blockTitle_filled (pixTotal : Nat) (ps : List Byte) : FilledBy pixTotal ps (blockTitle pixTotal ps) where
  place := blockPlacement_placed pixTotal ps
  key := by
    simp [blockTitle, blockKey, KeySense.ofCode_getD, min_eq_within]
  motion := by
    rintro r rfl
    refine ⟨?_, ?_, ?_, ?_, ?_⟩
    all_goals
      intro kind
      simp [blockTitle, blockMotion, kind, blockRamp, clamp_eq_within, SideApproach.ofCode_getD,
        VertApproach.ofCode_getD, min_eq_within]
  start := by
    refine ⟨fun code => ?_, fun code => ?_, fun n code => ?_⟩
    · simp [blockTitle, code, StartCond.ofCode]
    · simp [blockTitle, code, StartCond.ofCode]
    · simp [blockTitle, code, StartCond.ofCode_cue]
  dwell := rfl
  ending := by
    refine ⟨fun code => ?_, fun code => ?_, fun n code => ?_⟩
    · simp [blockTitle, code, EndCond.ofCode]
    · simp [blockTitle, code, EndCond.ofCode]
    · simp [blockTitle, code, EndCond.ofCode_cue]
  exit := Exit.ofCode_getD _
  exitStep := clamp_eq_within (by omega) _
  autoRetire := flagOfCode_getD _
  runtime := ⟨rfl, rfl, rfl, rfl, rfl, rfl, rfl, rfl, rfl, rfl⟩

/-- The geometry computed for a title that is not fading is the formula's. -/
theorem Title.redisplay_of_not_fading {t : Title} (still : t.phase.isFading = false) :
    t.redisplay = { t with disp := t.formula } :=
  if_neg (by simp [still])

theorem blockTitle_redisplay_filled (pixTotal : Nat) (ps : List Byte) :
    FilledBy pixTotal ps (blockTitle pixTotal ps).redisplay := by
  rw [Title.redisplay_of_not_fading rfl]
  obtain ⟨place, key, motion, start, dwell, ending, exit, exitStep, autoRetire, runtime⟩ :=
    blockTitle_filled pixTotal ps
  exact ⟨place, key, motion, start, dwell, ending, exit, exitStep, autoRetire, runtime⟩

/-! ### The lowest FREE record (04 R65) -/

theorem State.lowestFree_eq_none {s : State} (full : ∀ h, 1 ≤ h → h ≤ 24 → s.title h ≠ none) :
    s.lowestFree = none := by
  refine List.find?_eq_none.mpr fun h mem => ?_
  have range := List.mem_range'_1.mp mem
  simp [full h range.1 (by omega)]

theorem State.lowestFree_eq_some {s : State} {h : Nat} (pos : 1 ≤ h) (le : h ≤ 24) (places : s.titles.length = 24)
    (free : s.title h = none) (least : ∀ g, 1 ≤ g → g < h → s.title g ≠ none) : s.lowestFree = some h := by
  refine List.find?_range'_eq_some.mpr ⟨by simp [free, places, le], List.mem_range'_1.mpr (by omega),
    fun g from1 below => ?_⟩
  simpa using .inr (Option.isSome_iff_ne_none.mpr (least g from1 below))

/-! ### The command -/

theorem exec_createTitle {s : State} {ps : List Byte} (w : s.Awaits .createTitle ps) (b : Byte) :
    exec (.createTitle b) s = .next (finish 0x10 (doCreateTitle (ps ++ [b]) s.endCollection)) :=
  congrArg Host.Outcome.next (State.lastByte_performed w b 0x10 doCreateTitle)

theorem doCreateTitle_badChoice {ps : List Byte} {k : Nat} (bad : firstBadChoice ps = some k) (s : State) :
    doCreateTitle ps s = (s, Reply.badChoice k) := by
  unfold doCreateTitle; rw [bad]; rfl

theorem doCreateTitle_full {ps : List Byte} {s : State} (good : firstBadChoice ps = none) (full : s.lowestFree = none) :
    doCreateTitle ps s = (s, Reply.check .resource 1 0 0) := by
  unfold doCreateTitle; rw [good, full]; rfl

/-- The answer of a block that fills record `h`: ADJUSTED by its first clamped field (04 R65). -/
def createReply (pixTotal : Nat) (ps : List Byte) (h : Nat) : Reply :=
  match firstClamped pixTotal ps with
  | none => Reply.good [byteOf h]
  | some k => Reply.adjusted h k [byteOf h]

theorem doCreateTitle_fills {ps : List Byte} {s : State} {h : Nat} (good : firstBadChoice ps = none)
    (free : s.lowestFree = some h) :
    doCreateTitle ps s =
      ((s.setTitle h (some (blockTitle s.settings.pixTotal ps).redisplay)).clearNotices h,
        createReply s.settings.pixTotal ps h) := by
  unfold doCreateTitle createReply
  rw [good, free]
  cases firstClamped s.settings.pixTotal ps <;> rfl

/-- Settles O39: the choices of the block, then the table, then the record that the block fills. -/
theorem createTitleFillsTheLowestFreeRecord : Obligations.CreateTitleFillsTheLowestFreeRecord := by
  intro s ps b w block
  have row : exec (.createTitle b) s = .next (finish 0x10 (doCreateTitle block s.endCollection)) := exec_createTitle w b
  refine ⟨fun k bad least => ?_, fun good full => ?_, fun h good pos le places free least => ?_⟩
  · rw [row, doCreateTitle_badChoice (firstBadChoice_eq_some bad least), finish_endCollection]; rfl
  · rw [row, doCreateTitle_full (firstBadChoice_eq_none good) (State.lowestFree_eq_none (s := s.endCollection) full),
      finish_endCollection]
  · have lowest : s.endCollection.lowestFree = some h.toNat := State.lowestFree_eq_some pos le places free least
    have filled := blockTitle_redisplay_filled s.settings.pixTotal block
    have number : byteOf h.toNat = h := by simp [byteOf]
    refine ⟨(blockTitle s.settings.pixTotal block).redisplay, createReply s.settings.pixTotal block h.toNat, ?_,
      filled, ?_, fun kept => ?_, fun k clamped least => ?_, fun pix _ => filled.place.bounds pix⟩
    · rw [row, doCreateTitle_fills (firstBadChoice_eq_none good) lowest, State.endCollection_setTitle,
        State.endCollection_clearNotices, finish_endCollection, State.setTitle_eq_withTitle _ _ (by omega)]
      rfl
    · rw [Title.redisplay_of_not_fading rfl]; rfl
    · rw [createReply, firstClamped_eq_none kept, number]
    · rw [createReply, firstClamped_eq_some clamped least, number]

end Sys2Proof.Machine
end

section
/-! ## What a commit may write, and what each write leaves (07 R128, R129, 04 R59, R64) -/

namespace Sys2Proof.Machine

open Sys2Proof

/-! ### Which items are permitted (07 R128) -/

theorem Phase.admitsKind_iff (p : Phase) :
    p.admitsKind = true ↔ (p = .dormant ∨ p = .armed) ∨ p = .showing .dwell ∨ ∃ o, p = .done o := by
  unfold Phase.admitsKind; split <;> simp

theorem Phase.beforeStart_iff (p : Phase) : p.beforeStart = true ↔ p = .dormant ∨ p = .armed := by
  cases p <;> simp [Phase.beforeStart]

theorem Phase.isFading_iff (p : Phase) :
    p.isFading = true ↔ p = .showing (.leaving .fade) ∨ p = .held (.leaving .fade) := by
  unfold Phase.isFading; split <;> simp_all

theorem Motion.isNone_eq_false_iff (m : Motion) : m.isNone = false ↔ m ≠ .none := by
  cases m <;> simp [Motion.isNone]

theorem Motion.hasReach_iff (m : Motion) :
    m.hasReach = true ↔ (∃ a r n, m = .slide a r n) ∨ ∃ a r n, m = .rise a r n := by
  cases m <;> simp [Motion.hasReach]

theorem StartCond.isField_iff (c : StartCond) : c.isField = true ↔ ∃ n, c = .field n := by
  cases c <;> simp [StartCond.isField]

theorem Motion.setApproach_isSome_iff (m : Motion) (code : Nat) :
    (m.setApproach code).isSome = true ↔
      (((∃ a r, m = .wipe a r) ∨ ∃ a r n, m = .slide a r n) ∧ code ≤ 1) ∨
      ((∃ a r n, m = .rise a r n) ∧ (code = 2 ∨ code = 3)) := by
  cases m <;> simp [Motion.setApproach, SideApproach.ofCode_isSome, VertApproach.ofCode_isSome]

theorem Title.permits_motionItem (t : Title) {item : Nat} (from14 : 14 ≤ item) (to20 : item ≤ 20) (value : Nat) :
    t.permits item value = !t.motion.isNone := by
  interval_cases item <;> rfl

theorem Title.permits_other (t : Title) {item : Nat} (other : item < 12 ∨ 23 < item) (value : Nat) :
    t.permits item value = true := by
  unfold Title.permits
  split <;> simp_all

/-! ### The choices of an item, by their codes (04, "Choice codes") -/

theorem FieldMask.ofCode_of_mem :
    ∀ c ∈ [(0, FieldMask.both), (1, .a), (2, .b)], FieldMask.ofCode c.1 = some c.2 := by decide

theorem KeySense.ofCode_of_mem :
    ∀ c ∈ [(0, KeySense.normal), (1, .inverse)], KeySense.ofCode c.1 = some c.2 := by decide

theorem SideApproach.ofCode_of_mem :
    ∀ c ∈ [(0, SideApproach.fromLeft), (1, .fromRight)], SideApproach.ofCode c.1 = some c.2 := by decide

theorem VertApproach.ofCode_of_mem :
    ∀ c ∈ [(2, VertApproach.fromAbove), (3, .fromBelow)], VertApproach.ofCode c.1 = some c.2 := by decide

theorem Exit.ofCode_of_mem :
    ∀ c ∈ [(0, Exit.cut), (1, .fade), (2, .reverse)], Exit.ofCode c.1 = some c.2 := by decide

/-! ### The geometry after a write (04 R64) -/

/-- What a write leaves, from what it stores. -/
theorem Title.write_of_store {t u : Title} {pixTotal item value : Nat} (stored : t.store pixTotal item value = u) :
    t.write pixTotal item value =
      { u with disp :=
          if t.phase = .showing (.leaving .fade) ∨ t.phase = .held (.leaving .fade) then
            { u.formula with level := t.disp.level }
          else u.formula } := by
  have phase : u.phase = t.phase := stored ▸ t.store_phase pixTotal item value
  have disp : u.disp = t.disp := stored ▸ t.store_disp pixTotal item value
  rw [Title.write, stored, Title.redisplay]
  simp only [Phase.isFading_iff, phase, disp]
  split <;> rfl

/-! ### The parts that a kind makes present or absent (04 R64) -/

theorem Motion.sideOr_eq {m : Motion} {a : SideApproach}
    (kept : (∃ r, m = .wipe a r) ∨ (∃ r n, m = .slide a r n) ∨
      (¬((∃ a r, m = .wipe a r) ∨ ∃ a r n, m = .slide a r n) ∧ a = .fromLeft)) : m.sideOr = a := by
  cases m <;> simp_all [Motion.sideOr]

theorem Motion.reachOr_eq {m : Motion} {n : Nat}
    (kept : (∃ b r, m = .slide b r n) ∨ (∃ b r, m = .rise b r n) ∨
      ((∀ b r i, m ≠ .slide b r i) ∧ ¬(∃ a r n, m = .rise a r n) ∧ n = 0)) : m.reachOr = n := by
  cases m <;> simp_all [Motion.reachOr]

theorem Motion.vertOr_reachOr_eq {m : Motion} {a : VertApproach} {n : Nat}
    (kept : (∃ r, m = .rise a r n) ∨ (¬(∃ a r n, m = .rise a r n) ∧ a = .fromBelow ∧
      ((∃ b r, m = .slide b r n) ∨ ((∀ b r i, m ≠ .slide b r i) ∧ n = 0)))) : m.vertOr = a ∧ m.reachOr = n := by
  cases m <;> simp_all [Motion.vertOr, Motion.reachOr]

/-! ### The approach and the reach, where the kind has them (07 R128) -/

section
variable {m : Motion} {code : Nat} {r : Ramp} {n : Nat}

theorem Motion.getD_setApproach_of_wipe {a b : SideApproach} (kind : m = .wipe b r)
    (choice : SideApproach.ofCode code = some a) : (m.setApproach code).getD m = .wipe a r := by
  rw [kind, Motion.setApproach, choice, Option.map_some, Option.getD_some]

theorem Motion.getD_setApproach_of_slide {a b : SideApproach} (kind : m = .slide b r n)
    (choice : SideApproach.ofCode code = some a) : (m.setApproach code).getD m = .slide a r n := by
  rw [kind, Motion.setApproach, choice, Option.map_some, Option.getD_some]

theorem Motion.getD_setApproach_of_rise {a b : VertApproach} (kind : m = .rise b r n)
    (choice : VertApproach.ofCode code = some a) : (m.setApproach code).getD m = .rise a r n := by
  rw [kind, Motion.setApproach, choice, Option.map_some, Option.getD_some]

end

theorem Title.writeReach_of_slide {t : Title} {a : SideApproach} {r : Ramp} {n : Nat} (kind : t.motion = .slide a r n)
    (value : Nat) : t.writeMotion 21 value = { t with motion := .slide a r value } := by
  unfold Title.writeMotion; simp only [kind]

theorem Title.writeReach_of_rise {t : Title} {a : VertApproach} {r : Ramp} {n : Nat} (kind : t.motion = .rise a r n)
    (value : Nat) : t.writeMotion 21 value = { t with motion := .rise a r value } := by
  unfold Title.writeMotion; simp only [kind]

/-! ### The ramp (06 R117, R118) -/

theorem Title.editRamp_of_some {t : Title} {r : Ramp} (has : t.motion.ramp = some r) (f : Ramp → Ramp) :
    t.editRamp f = { t with motion := t.motion.withRamp (f r) } := by
  rw [Title.editRamp, has]

theorem Title.writeCourse_of_some {t : Title} {r : Ramp} (has : t.motion.ramp = some r) (value : Nat) :
    t.writeCourse value =
      { t with
        motion := t.motion.withRamp { r with course := value }
        travel := travelAfterCourse t.phase t.travel value } := by
  rw [Title.writeCourse, Title.editRamp_of_some has]

theorem travelAfterCourse_eq (p : Phase) (travel course : Nat) :
    travelAfterCourse p travel course =
      if p = .dormant ∨ p = .armed then 0
      else if p = .showing .dwell ∨ p = .held .dwell then course
      else min travel course := by
  unfold travelAfterCourse; split <;> simp

/-! ### The start condition (04 R64) -/

theorem StartCond.rewritten_cue (c : StartCond) (n : Fin 4) : c.rewritten (n.val + 1) = .cue n := by
  cases c <;> simp [StartCond.rewritten, StartCond.ofCode_cue]

theorem StartCond.rewritten_field {c : StartCond} {n : Nat}
    (kept : c = .field n ∨ ((∀ i, c ≠ .field i) ∧ n = 0)) : c.rewritten 5 = .field n := by
  cases c <;> simp_all [StartCond.rewritten, StartCond.ofCode]

theorem StartCond.rewritten_command (c : StartCond) : c.rewritten 0 = .command := by
  cases c <;> rfl

/-- Settles O50, item by item: what the write stores, and the geometry computed again after it. -/
theorem committedItemsArePermittedAndWritten : Obligations.CommittedItemsArePermittedAndWritten := by
  intro t pix item value p before still side rise permitted shown placed keyed moving withRamp q k fresh ramp u
  have stores {v : Title} (stored : t.store pix item value = v) : u = shown v := Title.write_of_store stored
  refine ⟨?permitted, ?prio, ?mask, ?place, ?colour, ?keyMask, ?sense, ?bank, ?level, ?kind, ?approach, ?ramp, ?reach,
    ?start, ?startField, ?dwell, ?ending, ?exit, ?exitStep, ?autoRetire⟩
  case permitted =>
    simp only [permitted]
    split
    · exact p.admitsKind_iff
    · rw [show t.permits 13 value = (p.admitsKind && (t.motion.setApproach value).isSome) from rfl, Bool.and_eq_true,
        Phase.admitsKind_iff, Motion.setApproach_isSome_iff]
    · exact t.motion.hasReach_iff
    · exact p.beforeStart_iff
    · rw [show t.permits 23 value = (p.beforeStart && t.start.isField) from rfl, Bool.and_eq_true,
        Phase.beforeStart_iff, StartCond.isField_iff]
    next not12 not13 not21 not22 not23 =>
      have : item ≠ 12 ∧ item ≠ 13 ∧ item ≠ 21 ∧ item ≠ 22 ∧ item ≠ 23 := ⟨not12, not13, not21, not22, not23⟩
      by_cases motion : 14 ≤ item ∧ item ≤ 20
      · rw [t.permits_motionItem motion.1 motion.2, Bool.not_eq_true', Motion.isNone_eq_false_iff]
        exact ⟨fun present _ _ => present, fun present => present motion.1 motion.2⟩
      · exact iff_of_true (t.permits_other (by omega) value) fun from14 to20 => absurd ⟨from14, to20⟩ motion
  case prio => rintro rfl; exact stores rfl
  case mask =>
    rintro rfl f code
    have written : (FieldMask.ofCode value).getD q.mask = f := by
      rw [FieldMask.ofCode_of_mem _ code, Option.getD_some]
    exact written ▸ stores rfl
  case place => rintro (rfl | rfl | rfl | rfl) <;> exact stores rfl
  case colour => rintro rfl; exact stores rfl
  case keyMask => rintro rfl; exact stores rfl
  case sense =>
    rintro rfl e code
    have written : (KeySense.ofCode value).getD k.sense = e := by
      rw [KeySense.ofCode_of_mem _ code, Option.getD_some]
    exact written ▸ stores rfl
  case bank => rintro rfl; exact stores rfl
  case level => rintro rfl; exact stores rfl
  case kind =>
    rintro rfl
    refine ⟨?_, ?_, fun a _ side => ⟨?_, fun n => ?_⟩, fun a n => ?_⟩
    · rintro rfl; exact stores rfl
    · rintro rfl; exact stores rfl
    · rintro rfl; exact Motion.sideOr_eq side ▸ stores rfl
    · rintro rfl reach; exact Motion.sideOr_eq side ▸ Motion.reachOr_eq reach ▸ stores rfl
    · rintro rfl kept
      obtain ⟨vert, reach⟩ := Motion.vertOr_reachOr_eq kept
      exact vert ▸ reach ▸ stores rfl
  case approach =>
    rintro rfl
    refine ⟨fun a b r motion code => ?_, fun a b r n motion code => ?_, fun a b r n motion code => ?_⟩
    · exact Motion.getD_setApproach_of_wipe motion (SideApproach.ofCode_of_mem _ code) ▸ stores rfl
    · exact Motion.getD_setApproach_of_slide motion (SideApproach.ofCode_of_mem _ code) ▸ stores rfl
    · exact Motion.getD_setApproach_of_rise motion (VertApproach.ofCode_of_mem _ code) ▸ stores rfl
  case ramp =>
    intro r has
    have edits {f : Ramp → Ramp} (stored : t.store pix item value = t.editRamp f) : u = moving (withRamp (f r)) :=
      stores (stored.trans (Title.editRamp_of_some has f))
    refine ⟨?_, ?_, ?_, ?_, ?_, ?_, ?_⟩
    · rintro rfl
      rw [← travelAfterCourse_eq]
      exact stores (Title.writeCourse_of_some has value)
    all_goals rintro rfl; exact edits rfl
  case reach =>
    rintro rfl
    exact ⟨fun a r n motion => stores (Title.writeReach_of_slide motion value),
      fun a r n motion => stores (Title.writeReach_of_rise motion value)⟩
  case start =>
    rintro rfl
    refine ⟨?_, ?_, ?_⟩
    · rintro rfl; exact t.start.rewritten_command ▸ stores rfl
    · rintro n rfl; exact t.start.rewritten_cue n ▸ stores rfl
    · rintro n rfl kept; exact StartCond.rewritten_field kept ▸ stores rfl
  case startField => rintro rfl; exact stores rfl
  case dwell => rintro rfl; exact stores rfl
  case ending =>
    rintro rfl
    refine ⟨?_, ?_, ?_⟩
    · rintro rfl; exact stores rfl
    · rintro rfl; exact stores rfl
    · rintro n rfl
      have written : (EndCond.ofCode (n.val + 1)).getD t.ending = .cue n := by rw [EndCond.ofCode_cue, Option.getD_some]
      exact written ▸ stores rfl
  case exit =>
    rintro rfl e code
    have written : (Exit.ofCode value).getD t.exit = e := by
      rw [Exit.ofCode_of_mem _ code, Option.getD_some]
    exact written ▸ stores rfl
  case exitStep => rintro rfl; exact stores rfl
  case autoRetire =>
    rintro rfl flag
    have written : (flagOfCode value).getD t.autoRetire = decide (value = 1) := by interval_cases value <;> rfl
    exact written ▸ stores rfl

end Sys2Proof.Machine
end

section
/-! ## The codes of the title table, and the reports on it (04 R57, R67 to R70) -/

namespace Sys2Proof.Machine

open Sys2Proof

/-! ### The codes (04, "Choice codes"; 11, "Sets") -/

/-- The showing phases are those of codes 3 to 7 (04 R57). -/
theorem Phase.isShowing_iff_code (p : Phase) : p.isShowing = true ↔ 3 ≤ p.code ∧ p.code ≤ 7 := by
  cases p with
  | dormant => decide
  | armed => decide
  | showing c => cases c <;> simp [Phase.isShowing, Phase.code, Course.phaseCode]
  | held c => simp [Phase.isShowing, Phase.code]
  | done o => simp [Phase.isShowing, Phase.code]

theorem mul_boolCode (w : Nat) (b : Bool) : w * boolCode b = if b then w else 0 := by
  cases b <;> simp [boolCode]

theorem byteOf_boolCode (b : Bool) : byteOf (boolCode b) = if b then 1 else 0 := by
  cases b <;> rfl

/-! ### The QUERY TITLE result (04 R67; 11, "QUERY TITLE result") -/

theorem motionBytes_length (m : Motion) : (motionBytes m).length = 16 := by
  cases m <;> rfl

theorem queryBytes_length (t : Title) (n : NoticeSet) : (queryBytes t n).length = 65 := by
  simp [queryBytes, blockBytes, wordBytes, signedWordBytes, motionBytes_length]

theorem exec_queryTitle {s : State} (h : Byte) (w : s.Awaits .queryTitle []) :
    exec (.queryTitle h) s =
      .next (finish 0x12 (s.endCollection.onTitle h.toNat fun t =>
        (s.endCollection, Reply.good (queryBytes t (s.noticeSet h.toNat))))) :=
  congrArg Host.Outcome.next (State.lastByte_performed w h 0x12 doQueryTitle)

theorem exec_queryTitle_live {s : State} {h : Byte} {t : Title} (w : s.Awaits .queryTitle [])
    (live : s.title h.toNat = some t) :
    exec (.queryTitle h) s = .next (s.answered 0x12 (Reply.good (queryBytes t (s.noticeSet h.toNat)))) := by
  rw [exec_queryTitle h w, State.onTitle_of_some (s := s.endCollection) live, finish_endCollection]

theorem queryTitle_free {s : State} {h : Byte} (w : s.Awaits .queryTitle []) (free : s.title h.toNat = none) :
    exec (.queryTitle h) s = .next (s.answered 0x12 (Reply.check .illegalRequest 2 h.toNat 0)) := by
  rw [exec_queryTitle h w, finish_noSuchTitle free]

/-! ### LIST TITLES and HIT TEST (04 R68 to R70) -/

theorem exec_listTitles {s : State} {lo : Byte} (hi : Byte) (w : s.Awaits .listTitles [lo]) :
    exec (.listTitles hi) s = .next (finish 0x13 (doListTitles [lo, hi] s.endCollection)) :=
  congrArg Host.Outcome.next (State.lastByte_performed w hi 0x13 doListTitles)

theorem exec_hitTest {s : State} {parity y0 y1 x0 : Byte} (x1 : Byte) (w : s.Awaits .hitTest [parity, y0, y1, x0]) :
    exec (.hitTest x1) s = .next (finish 0x14 (doHitTest [parity, y0, y1, x0, x1] s.endCollection)) :=
  congrArg Host.Outcome.next (State.lastByte_performed w x1 0x14 doHitTest)

theorem doHitTest_badParity {ps : List Byte} (bad : Parity.ofCode (byteAt ps 1) = none) (s : State) :
    doHitTest ps s = (s, Reply.badChoice 0) := by
  rw [doHitTest, bad]; rfl

theorem doHitTest_parity {ps : List Byte} {p : Parity} (code : Parity.ofCode (byteAt ps 1) = some p) (s : State) :
    doHitTest ps s = (s, Reply.good [byteOf (s.hit p (wordAt ps 2) (wordAt ps 4))]) := by
  rw [doHitTest, code]

theorem Parity.ofCode_eq_none {v : Nat} (out : 2 ≤ v) : Parity.ofCode v = none := by
  unfold Parity.ofCode
  split
  · omega
  · omega
  · rfl

/-- Settles O40: the codes by their definitions, then the three reports. -/
theorem titleReportsAnswerFromTheTable : Obligations.TitleReportsAnswerFromTheTable := by
  refine ⟨?phases, ?choices, ?sets, fun s => ⟨fun h w => ⟨queryTitle_free w, fun t live => ?query⟩, ?list, ?hit⟩⟩
  case phases =>
    exact ⟨rfl, fun _ => rfl, rfl, rfl, rfl, fun _ => rfl, rfl, rfl, fun _ => rfl, fun _ => rfl,
      Phase.isShowing_iff_code⟩
  case choices =>
    exact ⟨rfl, rfl, rfl, rfl, rfl, rfl, rfl, rfl, rfl, rfl, fun _ => rfl, fun _ => rfl, rfl, fun _ => rfl, rfl, rfl,
      rfl, rfl⟩
  case sets =>
    intro m n weigh
    refine ⟨?_, ?_, rfl, rfl, rfl, rfl, rfl⟩
    · simp only [Marks.code, mul_boolCode]; rfl
    · simp only [NoticeSet.code, mul_boolCode]; rfl
  case query =>
    intro word signed absent heldFrom outcome manner ramp motion startField bit bytes
    have moves : motion = byteOf t.motion.kindCode :: motionBytes t.motion := by
      dsimp only [motion]; cases t.motion <;> rfl
    have held : heldFrom = heldFromByte t.phase := by
      dsimp only [heldFrom]
      cases t.phase with
      | held c => cases c <;> rfl
      | _ => rfl
    have ended : outcome = outcomeByte t.phase := by
      dsimp only [outcome]
      cases t.phase with
      | done o => cases o <;> rfl
      | _ => rfl
    have leaves : manner = mannerByte t.phase := by
      dsimp only [manner]
      rcases t.phase with _ | _ | (_ | _ | _ | m) | (_ | _ | _ | m) | _
      case showing.leaving | held.leaving => cases m <;> rfl
      all_goals rfl
    have starts : startField = startFieldOf t.start := by
      dsimp only [startField]; cases t.start <;> rfl
    have written : queryBytes t (s.noticeSet h.toNat) = bytes := by
      simp only [bytes, moves, held, ended, leaves, starts, bit, ← byteOf_boolCode, queryBytes, blockBytes,
        List.append_assoc, List.cons_append, List.nil_append]
      rfl
    exact ⟨written ▸ exec_queryTitle_live w live, written ▸ queryBytes_length t _⟩
  case list =>
    intro lo hi w set listed
    have word : wordAt [lo, hi] 1 = set := rfl
    refine ⟨fun out => ?_, fun within => ?_⟩
    · rw [exec_listTitles hi w, doListTitles, word, if_pos out]
      exact congrArg Host.Outcome.next (finish_endCollection s _ _)
    · rw [exec_listTitles hi w, doListTitles, word, if_neg (Nat.not_le.mpr within), finish_endCollection]
      rfl
  case hit =>
    intro parity y0 y1 x0 x1 w y x answer
    have hit (p : Parity) : byteOf (s.endCollection.hit p y x) = answer p := by
      dsimp only [answer]
      rw [← deciding_eq, State.hit, show s.endCollection.spans p y = s.spans p y from rfl]
      cases deciding (s.spans p y) x <;> rfl
    refine ⟨fun a => ?_, fun b => ?_, fun out => ?_⟩
    · rw [exec_hitTest x1 w, doHitTest_parity (p := .a) (by rw [a]; rfl), finish_endCollection]
      exact congrArg (fun v => Host.Outcome.next (s.answered 0x14 (Reply.good [v]))) (hit .a)
    · rw [exec_hitTest x1 w, doHitTest_parity (p := .b) (by rw [b]; rfl), finish_endCollection]
      exact congrArg (fun v => Host.Outcome.next (s.answered 0x14 (Reply.good [v]))) (hit .b)
    · rw [exec_hitTest x1 w, doHitTest_badParity (ps := [parity, y0, y1, x0, x1]) (Parity.ofCode_eq_none out),
        finish_endCollection]
      rfl

end Sys2Proof.Machine
end

section
/-! ## The field step of one title, by its phase (05 R83 to R91, R95) -/

namespace Sys2Proof.Machine

open Sys2Proof

/-! ### Which work a phase takes (05 R83) -/

theorem titleStep_armed {t : Title} (armed : t.phase = .armed) (n : BitVec 16) : titleStep n t = startTest n t := by
  rw [titleStep, armed]

theorem titleStep_entering {t : Title} (entering : t.phase = .showing .entering) (n : BitVec 16) :
    titleStep n t = enteringStep t [] := by
  rw [titleStep, entering]

theorem titleStep_dwell {t : Title} (dwelling : t.phase = .showing .dwell) (n : BitVec 16) :
    titleStep n t = dwellStep t := by
  rw [titleStep, dwelling]

theorem titleStep_turning {t : Title} (turning : t.phase = .showing .turning) (n : BitVec 16) :
    titleStep n t = turningStep t [] := by
  rw [titleStep, turning]

theorem titleStep_fading {t : Title} (fading : t.phase = .showing (.leaving .fade)) (n : BitVec 16) :
    titleStep n t = fadeStep t [] := by
  rw [titleStep, fading]

theorem titleStep_reversing {t : Title} (back : t.phase = .showing (.leaving .reverse)) (n : BitVec 16) :
    titleStep n t = reverseStep t [] := by
  rw [titleStep, back]

theorem titleStep_still {t : Title} (still : t.phase = .dormant ∨ (∃ c, t.phase = .held c) ∨ ∃ o, t.phase = .done o)
    (n : BitVec 16) : titleStep n t = (t, []) := by
  obtain dormant | ⟨c, held⟩ | ⟨o, gone⟩ := still
  · rw [titleStep, dormant]
  · rw [titleStep, held]
  · rw [titleStep, gone]

/-! ### A fade (05 R89) -/

/-- The displayed level after one drop. -/
def Title.dropped (t : Title) : Title :=
  { t with disp := { t.disp with level := t.disp.level - t.exitStep } }

theorem fadeStep_ends {t : Title} (low : t.disp.level ≤ t.exitStep) (ns : List Notice) :
    fadeStep t ns = t.dropped.leaveEnds ns :=
  if_pos (Nat.sub_eq_zero_of_le low)

theorem fadeStep_goesOn {t : Title} (high : t.exitStep < t.disp.level) (ns : List Notice) :
    fadeStep t ns = (t.dropped, ns) :=
  if_neg (Nat.sub_ne_zero_of_lt high)

theorem beginFade_ends {t : Title} (low : t.disp.level ≤ t.exitStep) (ns : List Notice) :
    beginFade t ns = t.dropped.leaveEnds ns :=
  fadeStep_ends (t := { t with phase := .showing (.leaving .fade) }) low ns

theorem beginFade_goesOn {t : Title} (high : t.exitStep < t.disp.level) (ns : List Notice) :
    beginFade t ns = ({ t.dropped with phase := .showing (.leaving .fade) }, ns) :=
  fadeStep_goesOn (t := { t with phase := .showing (.leaving .fade) }) high ns

/-! ### A reversal (05 R90, R95) -/

/-- A HALT DECELERATED that the velocity lets take hold (05 R95). -/
theorem holdsNow_eq_false {t : Title} (moves : t.haltPending = false ∨ (motionStep t).atStartRate = false) :
    (t.haltPending && (motionStep t).atStartRate) = false := by
  rwa [Bool.and_eq_false_iff]

theorem reverseStep_ends {t : Title} (home : (motionStep t).title.travel = 0) (ns : List Notice) :
    reverseStep t ns = (motionStep t).title.leaveEnds ns :=
  if_pos home

theorem reverseStep_holds {t : Title} (away : (motionStep t).title.travel ≠ 0) (halts : t.haltPending = true)
    (slow : (motionStep t).atStartRate = true) (ns : List Notice) :
    reverseStep t ns = ((motionStep t).title.heldFrom (.leaving .reverse), ns) := by
  simp [reverseStep, away, halts, slow]

theorem reverseStep_goesOn {t : Title} (away : (motionStep t).title.travel ≠ 0)
    (moves : t.haltPending = false ∨ (motionStep t).atStartRate = false) (ns : List Notice) :
    reverseStep t ns = ((motionStep t).title, ns) := by
  simp [reverseStep, away, holdsNow_eq_false moves]

/-! ### A turn (05 R91, R95) -/

theorem turningStep_rests {t : Title} (moving : t.turnPause = 0)
    (slow : (motionStep t).complete = true ∨ (motionStep t).atStartRate = true) (ns : List Notice) :
    turningStep t ns =
      (if t.haltPending then { (motionStep t).title with turnPause := 2 }.heldFrom .turning
        else { (motionStep t).title with turnPause := 2 }, ns) := by
  rw [turningStep, if_pos moving, if_pos (by rwa [Bool.or_eq_true]), ← apply_ite (·, ns)]

theorem turningStep_slows {t : Title} (moving : t.turnPause = 0) (short : (motionStep t).complete = false)
    (fast : (motionStep t).atStartRate = false) (ns : List Notice) : turningStep t ns = ((motionStep t).title, ns) := by
  simp [turningStep, moving, short, fast]

theorem turningStep_reverses {t : Title} (last : t.turnPause = 1) (ns : List Notice) :
    turningStep t ns = ({ t with turnPause := 0 }.reversing, ns) := by
  simp [turningStep, last]

theorem turningStep_pauses {t : Title} (more : 2 ≤ t.turnPause) (ns : List Notice) :
    turningStep t ns = ({ t with turnPause := t.turnPause - 1 }, ns) := by
  have resting : t.turnPause ≠ 0 := by omega
  have stays : t.turnPause - 1 ≠ 0 := by omega
  simp [turningStep, resting, stays]

/-! ### An entry (05 R86, R88, R95) -/

/-- An ENTERING title that a motion step has brought to the end of its course is in DWELL (05 R86). -/
def Title.arrived (t : Title) : Title :=
  { (motionStep t).title with
    phase := .showing .dwell
    dwellLeft := t.dwell
    marks := { (motionStep t).title.marks with decel := false } }

theorem enteringStep_arrives {t : Title} (noEnd : t.marks.endMark = false) (arrives : (motionStep t).complete = true)
    (ns : List Notice) :
    enteringStep t ns = (if t.haltPending then t.arrived.heldFrom .dwell else t.arrived, ns ++ [.entered]) := by
  rw [enteringStep, noEnd, if_neg Bool.false_ne_true, if_pos arrives]
  rfl

theorem enteringStep_holds {t : Title} (noEnd : t.marks.endMark = false) (short : (motionStep t).complete = false)
    (halts : t.haltPending = true) (slow : (motionStep t).atStartRate = true) (ns : List Notice) :
    enteringStep t ns = ((motionStep t).title.heldFrom .entering, ns) := by
  simp [enteringStep, noEnd, short, halts, slow]

theorem enteringStep_goesOn {t : Title} (noEnd : t.marks.endMark = false) (short : (motionStep t).complete = false)
    (moves : t.haltPending = false ∨ (motionStep t).atStartRate = false) (ns : List Notice) :
    enteringStep t ns = ((motionStep t).title, ns) := by
  simp [enteringStep, noEnd, short, holdsNow_eq_false moves]

/-- An ENTERING title whose END is taken up: it leaves by command, from a standstill (05 R86). -/
def Title.endTaken (t : Title) : Title :=
  { t with marks := { t.marks with endMark := false }, velocity := 0, byCommand := true }

theorem enteringStep_cuts {t : Title} (ends : t.marks.endMark = true) (cut : t.exit = .cut) (ns : List Notice) :
    enteringStep t ns = t.endTaken.leaveEnds (ns ++ [.left]) := by
  simp [enteringStep, ends, cut, Title.endTaken]

theorem enteringStep_fades {t : Title} (ends : t.marks.endMark = true) (fade : t.exit = .fade) (ns : List Notice) :
    enteringStep t ns = beginFade t.endTaken (ns ++ [.left]) := by
  simp [enteringStep, ends, fade, Title.endTaken]

theorem enteringStep_turns {t : Title} (ends : t.marks.endMark = true) (reverse : t.exit = .reverse)
    (ns : List Notice) :
    enteringStep t ns = turningStep { t.endTaken with phase := .showing .turning } (ns ++ [.left]) := by
  simp [enteringStep, ends, reverse, Title.endTaken]

/-! ### The notices of a work come after those handed to it (05 R100) -/

/-- Work that does the same whatever notices it is handed, and raises its own after them. -/
def RaisesAfter (work : Title → List Notice → TitleWork) : Prop :=
  ∀ t ns, work t ns = ((work t []).1, ns ++ (work t []).2)

theorem fadeStep_raisesAfter : RaisesAfter fadeStep := by
  intro t ns
  obtain low | high := le_or_gt t.disp.level t.exitStep
  · rw [fadeStep_ends low, fadeStep_ends low]; rfl
  · rw [fadeStep_goesOn high, fadeStep_goesOn high, List.append_nil]

theorem beginFade_raisesAfter : RaisesAfter beginFade :=
  fun t ns => fadeStep_raisesAfter { t with phase := .showing (.leaving .fade) } ns

theorem reverseStep_raisesAfter : RaisesAfter reverseStep := by
  intro t ns
  unfold reverseStep
  dsimp only
  split
  · rfl
  · split <;> simp

/-- A TURNING title raises no notice of its own (05 R91). -/
theorem turningStep_silent (t : Title) (ns : List Notice) : turningStep t ns = ((turningStep t []).1, ns) := by
  unfold turningStep
  dsimp only
  split
  · split
    · split <;> rfl
    · rfl
  · split <;> rfl

theorem enteringStep_raisesAfter : RaisesAfter enteringStep := by
  intro t ns
  cases ends : t.marks.endMark with
  | true =>
    cases exit : t.exit with
    | cut =>
      rw [enteringStep_cuts ends exit, enteringStep_cuts ends exit]
      simp [Title.leaveEnds]
    | fade =>
      rw [enteringStep_fades ends exit, enteringStep_fades ends exit, beginFade_raisesAfter _ (ns ++ [Notice.left]),
        beginFade_raisesAfter _ ([] ++ [Notice.left]), List.append_assoc]
      rfl
    | reverse =>
      rw [enteringStep_turns ends exit, enteringStep_turns ends exit, turningStep_silent _ (ns ++ [Notice.left]),
        turningStep_silent _ ([] ++ [Notice.left])]
      rfl
  | false =>
    unfold enteringStep
    simp only [ends, Bool.false_eq_true, if_false]
    split
    · rfl
    · split <;> simp

/-! ### A start (05 R84, R85) -/

theorem Title.starts_iff (t : Title) (n : BitVec 16) :
    t.starts n = true ↔ t.marks.go = true ∨ t.start = .field n.toNat := by
  simp [Title.starts]

theorem startTest_waits {t : Title} {n : BitVec 16} (waits : ¬(t.marks.go = true ∨ t.start = .field n.toNat)) :
    startTest n t = (t, []) :=
  if_neg (mt (t.starts_iff n).mp waits)

theorem startTest_shows {t : Title} {n : BitVec 16} (starts : t.marks.go = true ∨ t.start = .field n.toNat)
    (kind : t.motion = .none) :
    startTest n t =
      (Title.redisplay
        { t with phase := .showing .dwell, marks := { t.marks with go := false }, dwellLeft := t.dwell },
       [.started, .entered]) := by
  rw [startTest, if_pos ((t.starts_iff n).mpr starts), kind]
  rfl

theorem startTest_enters {t : Title} {n : BitVec 16} {r : Ramp}
    (starts : t.marks.go = true ∨ t.start = .field n.toNat) (ramp : t.motion.ramp = some r) :
    startTest n t =
      enteringStep
        { t with
          phase := .showing .entering, marks := { t.marks with go := false, decel := false }, travel := 0
          velocity := 0, creepLeft := r.creep }
        [.started] := by
  rw [startTest, if_pos ((t.starts_iff n).mpr starts), ramp]

/-- Settles O24: one case a phase, an ENTERING title with its END apart. -/
theorem fieldStepStartsEntersAndTurns : Obligations.FieldStepStartsEntersAndTurns := by
  intro n t starts m heldNow
  refine ⟨fun still => titleStep_still still n, fun armed => ?armed, fun entering noEnd => ?entering,
    fun entering ends => ?leaving, fun turning => ?turning⟩
  case armed =>
    rw [titleStep_armed armed]
    refine ⟨startTest_waits, fun go kind => ?_, fun r go ramp => ?_⟩
    · rw [startTest_shows go kind, Title.redisplay_of_not_fading rfl]
    · rw [startTest_enters go ramp, enteringStep_raisesAfter]
      rfl
  case entering =>
    rw [titleStep_entering entering]
    refine ⟨fun arrives free => ?_, fun arrives halts => ?_, fun short halts slow => ?_, fun short moves => ?_⟩
    · rw [enteringStep_arrives noEnd arrives, free]
      rfl
    · rw [enteringStep_arrives noEnd arrives, halts]
      rfl
    · exact enteringStep_holds noEnd short halts slow []
    · exact enteringStep_goesOn noEnd short moves []
  case leaving =>
    intro u ended dropped
    rw [titleStep_entering entering]
    refine ⟨fun cut => enteringStep_cuts ends cut [], fun fade low => ?_, fun fade high => ?_, fun reverse => ?_⟩
    · rw [enteringStep_fades ends fade]
      exact beginFade_ends (t := u) low _
    · rw [enteringStep_fades ends fade]
      exact beginFade_goesOn (t := u) high _
    · rw [enteringStep_turns ends reverse, titleStep_turning rfl]
      exact turningStep_silent { u with phase := .showing .turning } _
  case turning =>
    rw [titleStep_turning turning]
    refine ⟨fun moving slow free => ?_, fun moving slow halts => ?_, fun moving short fast => ?_, fun last => ?_,
      fun more => ?_⟩
    · rw [turningStep_rests moving slow, free]
      rfl
    · rw [turningStep_rests moving slow, halts]
      rfl
    · exact turningStep_slows moving short fast []
    · exact turningStep_reverses last []
    · exact turningStep_pauses more []

/-! ### A dwell (05 R87, R88) -/

theorem EndCond.counts_iff (e : EndCond) : e.counts = true ↔ e ≠ .command := by
  cases e <;> simp [EndCond.counts]

/-- Whether the dwell is counted: it is not 0 and some of it is left, under an end condition that counts (log 11). -/
theorem countsDown_iff (t : Title) :
    (t.ending.counts && decide (0 < t.dwell) && decide (0 < t.dwellLeft)) = true ↔
      t.ending ≠ .command ∧ 0 < t.dwell ∧ 0 < t.dwellLeft := by
  simp [EndCond.counts_iff, and_assoc]

section
variable {t : Title} (noEnd : t.marks.endMark = false)

include noEnd

theorem dwellStep_stands (stands : ¬(t.ending ≠ .command ∧ 0 < t.dwell ∧ 0 < t.dwellLeft)) :
    dwellStep t = (t, []) := by
  rw [dwellStep, noEnd, if_neg Bool.false_ne_true, if_neg (mt (countsDown_iff t).mp stands)]

theorem dwellStep_counts (counts : t.ending ≠ .command ∧ 0 < t.dwell ∧ 0 < t.dwellLeft) (more : 1 < t.dwellLeft) :
    dwellStep t = ({ t with dwellLeft := t.dwellLeft - 1 }, []) := by
  rw [dwellStep, noEnd, if_neg Bool.false_ne_true, if_pos ((countsDown_iff t).mpr counts)]
  exact if_neg (Nat.sub_ne_zero_of_lt more)

theorem dwellStep_runsOut (counts : t.ending ≠ .command ∧ 0 < t.dwell ∧ 0 < t.dwellLeft) (last : t.dwellLeft = 1) :
    dwellStep t = beginLeave { t with dwellLeft := 0 } := by
  rw [dwellStep, noEnd, if_neg Bool.false_ne_true, if_pos ((countsDown_iff t).mpr counts), last]
  rfl

end

theorem dwellStep_ends {t : Title} (ends : t.marks.endMark = true) :
    dwellStep t = beginLeave { t with marks := { t.marks with endMark := false } } :=
  if_pos ends

theorem beginLeave_cuts {t : Title} (cuts : t.exit = .cut ∨ (t.exit = .reverse ∧ t.motion = .none)) :
    beginLeave t = t.leaveEnds [.left] := by
  obtain cut | ⟨reverse, kind⟩ := cuts
  · rw [beginLeave, cut]
  · rw [beginLeave, reverse, kind]
    rfl

theorem beginLeave_fades {t : Title} (fade : t.exit = .fade) : beginLeave t = beginFade t [.left] := by
  rw [beginLeave, fade]

theorem beginLeave_reverses {t : Title} (reverse : t.exit = .reverse) (kind : t.motion ≠ .none) :
    beginLeave t = reverseStep t.reversing [.left] := by
  rw [beginLeave, reverse, (Motion.isNone_eq_false_iff _).mpr kind]
  rfl

/-- Settles O25: a DWELL title that stays, one that begins to leave, and the two manners of LEAVING. -/
theorem fieldStepDwellsAndLeaves : Obligations.FieldStepDwellsAndLeaves := by
  intro n t ended dropped counts
  refine ⟨fun dwelling noEnd => ?dwell, fun u dwelling begins => ?leave, fun fading => ?fade, fun back => ?reverse⟩
  case dwell =>
    rw [titleStep_dwell dwelling]
    exact ⟨dwellStep_stands noEnd, dwellStep_counts noEnd⟩
  case leave =>
    intro back
    have leaves : titleStep n t = beginLeave u := by
      rw [titleStep_dwell dwelling]
      obtain ⟨ends, rfl⟩ | ⟨noEnd, counted, last, rfl⟩ := begins
      · exact dwellStep_ends ends
      · exact dwellStep_runsOut noEnd counted last
    have kept : t.exit = u.exit ∧ t.motion = u.motion ∧ t.disp = u.disp ∧ t.exitStep = u.exitStep := by
      obtain ⟨-, rfl⟩ | ⟨-, -, -, rfl⟩ := begins <;> exact ⟨rfl, rfl, rfl, rfl⟩
    obtain ⟨exit, motion, disp, exitStep⟩ := kept
    rw [leaves, exit, motion, disp, exitStep]
    refine ⟨beginLeave_cuts, fun fade low => ?_, fun fade high => ?_, fun reverse kind => ?_⟩
    · rw [beginLeave_fades fade]
      exact beginFade_ends low _
    · rw [beginLeave_fades fade]
      exact beginFade_goesOn high _
    · rw [beginLeave_reverses reverse kind, titleStep_reversing rfl]
      exact reverseStep_raisesAfter back _
  case fade =>
    rw [titleStep_fading fading]
    exact ⟨fun low => fadeStep_ends low [], fun high => fadeStep_goesOn high []⟩
  case reverse =>
    rw [titleStep_reversing back]
    exact ⟨fun home => reverseStep_ends home [], fun away halts slow => reverseStep_holds away halts slow [],
      fun away moves => reverseStep_goesOn away moves []⟩

end Sys2Proof.Machine
end

section
/-! ## The sequencing commands in the phases they accept (05 R81, R82, R92 to R97) -/

namespace Sys2Proof.Machine

open Sys2Proof

/-! ### An accepted command -/

theorem State.sequence_accepted {s : State} {h : Nat} {t : Title} (live : s.title h = some t)
    {work : Title → Option TitleWork} {v : TitleWork} (accepts : work t = some v) :
    s.sequence h work = (s.settleTitle h v, Reply.good []) := by
  rw [State.sequence, State.onTitle_of_some live, accepts]

section
variable {s : State} {i : Instr} {c : Command} {b h : Byte} {ps : List Byte} {t : Title}
  {work : Title → Option TitleWork} (w : s.Awaits c ps)
  (row : exec i s =
    .next (s.lastByte c b fun ps s => performWith c.code (fun s => s.sequence (byteAt ps 1) work) s))
  (handle : byteAt (ps ++ [b]) 1 = h.toNat) (live : s.title h.toNat = some t)

include w row handle live

/-- The row of an accepted sequencing command settles the work of its title and answers GOOD. -/
theorem exec_settles {v : TitleWork} (accepts : work t = some v) :
    exec i s = .next ((s.settleTitle h.toNat v).answered c.code (Reply.good [])) := by
  rw [row, State.lastByte_performed w b c.code fun ps s => s.sequence (byteAt ps 1) work, handle,
    State.sequence_accepted (s := s.endCollection) live accepts, finish_settleTitle]

/-- Where the work raises no notice, the row replaces the record and does no more to the titles. -/
theorem exec_replaces {u : Title} (accepts : work t = some (u, [])) :
    exec i s = .next ((s.withTitle h u).answered c.code (Reply.good [])) := by
  rw [exec_settles w row handle live accepts, State.settleTitle_silent,
    State.setTitle_eq_withTitle s h (State.title_some_range live).1]

end

/-! ### ARM, DISARM, START and REARM (05 R81, R82, R97) -/

theorem armTitle_dormant {t : Title} (dormant : t.phase = .dormant) :
    armTitle t = some ({ t with phase := .armed }, []) := by
  rw [armTitle, dormant]

theorem disarmTitle_armed {t : Title} (armed : t.phase = .armed) :
    disarmTitle t = some ({ t with phase := .dormant, marks := { t.marks with go := false } }, []) := by
  rw [disarmTitle, armed]

theorem startTitle_accepted {t : Title} (waits : t.phase = .dormant ∨ t.phase = .armed) :
    startTitle t = some ({ t with phase := .armed, marks := { t.marks with go := true } }, []) := by
  obtain dormant | armed := waits
  · simp [startTitle, dormant]
  · simp [startTitle, armed]

/-- A title as REARM leaves it, but for its displayed geometry (05 R97). -/
def Title.fresh (t : Title) : Title :=
  { t with
    phase := .dormant, marks := Marks.empty, travel := 0, velocity := 0, creepLeft := 0, turnPause := 0
    dwellLeft := 0, leavePlanned := false, haltPending := false, byCommand := false }

theorem rearmTitle_done {t : Title} {o : TitleOutcome} (gone : t.phase = .done o) :
    rearmTitle t = some ({ t.fresh with disp := t.fresh.formula }, []) := by
  rw [rearmTitle, gone, Title.redisplay_of_not_fading rfl]
  rfl

/-- Settles O45: each row runs the work of its command on the title it names. -/
theorem armDisarmStartAndRearm : Obligations.ArmDisarmStartAndRearm := by
  intro s h t live
  refine ⟨fun w dormant => ?arm, fun w armed => ?disarm, fun w waits => ?start, fun w o gone => ?rearm⟩
  case arm => exact exec_replaces w rfl rfl live (armTitle_dormant dormant)
  case disarm => exact exec_replaces w rfl rfl live (disarmTitle_armed armed)
  case start => exact exec_replaces w rfl rfl live (startTitle_accepted waits)
  case rearm => exact exec_replaces w rfl rfl live (rearmTitle_done gone)

/-! ### HALT (05 R94, R95) -/

/-- A title that HALT holds in phase `c`: an END becomes a planned leave (05 R94). -/
def Title.halted (t : Title) (c : Course) : Title :=
  { t.heldFrom c with
    marks := { t.marks with endMark := false, decel := false }
    leavePlanned := t.leavePlanned || t.marks.endMark }

theorem haltTitle_showing {t : Title} {c : Course} (showing : t.phase = .showing c) :
    haltTitle t = some (t.halted c, []) := by
  rw [haltTitle, showing]
  rfl

theorem Title.slowsToHalt_iff {t : Title} {c : Course} (showing : t.phase = .showing c) :
    t.slowsToHalt = true ↔
      (c = .entering ∧ t.marks.endMark = false) ∨ c = .leaving .reverse ∨ (c = .turning ∧ t.turnPause = 0) := by
  rw [Title.slowsToHalt, showing]
  cases c with
  | entering => simp
  | dwell => simp
  | turning => simp
  | leaving manner => cases manner <;> simp

theorem slowHaltTitle_slows {t : Title} (slows : t.slowsToHalt = true) :
    slowHaltTitle t = some ({ t with marks := { t.marks with decel := true }, haltPending := true }, []) :=
  if_pos slows

theorem slowHaltTitle_holds {t : Title} (atOnce : ¬t.slowsToHalt = true) : slowHaltTitle t = haltTitle t :=
  if_neg atOnce

/-- Settles O47: HALT DECELERATED is HALT IMMEDIATE but for a title that slows first. -/
theorem haltHoldsAtOnceOrSlows : Obligations.HaltHoldsAtOnceOrSlows := by
  intro s h t c live showing w held slows
  have halts : haltTitle t = some (held, []) := haltTitle_showing showing
  have slows_iff : t.slowsToHalt = true ↔ slows := Title.slowsToHalt_iff showing
  refine ⟨?immediate, fun moved => ?atOnce, fun moving => ?slowing⟩
  case immediate => exact exec_replaces w rfl rfl live halts
  case atOnce =>
    exact exec_replaces w rfl rfl live ((slowHaltTitle_holds (mt slows_iff.mp moved)).trans halts)
  case slowing => exact exec_replaces w rfl rfl live (slowHaltTitle_slows (slows_iff.mpr moving))

/-! ### LEAVE (05 R92, R93) -/

theorem leaveTitle_unshown {t : Title} (waits : t.phase = .dormant ∨ t.phase = .armed) :
    leaveTitle t = some (t.ended .neverShown, [.done]) := by
  obtain dormant | armed := waits
  · rw [leaveTitle, dormant]
  · rw [leaveTitle, armed]

theorem leaveTitle_dwell {t : Title} (dwelling : t.phase = .showing .dwell) :
    leaveTitle t = some ({ t with marks := { t.marks with endMark := true }, byCommand := true }, []) := by
  simp [leaveTitle, dwelling]

theorem leaveTitle_entering {t : Title} (entering : t.phase = .showing .entering) :
    leaveTitle t = some (leaveEntering { t with byCommand := true }) := by
  simp [leaveTitle, entering]

theorem leaveTitle_held {t : Title} (held : t.phase = .held .dwell ∨ t.phase = .held .entering) :
    leaveTitle t = some ({ t with leavePlanned := true, byCommand := true }, []) := by
  obtain dwelling | entering := held
  · simp [leaveTitle, dwelling]
  · simp [leaveTitle, entering]

/-- A leave by command that is over at once (05 R92). -/
theorem leaveEntering_cut {t : Title} (cut : t.exit = .cut) (byCommand : t.byCommand = true) :
    leaveEntering t = (t.ended .leftOnCommand, [.left, .done]) := by
  rw [leaveEntering, cut, Title.leaveEnds, byCommand]
  rfl

theorem leaveEntering_fade {t : Title} (fade : t.exit = .fade) :
    leaveEntering t =
      ({ t with marks := { t.marks with endMark := true, decel := false }, haltPending := false }, []) := by
  simp [leaveEntering, fade]

theorem leaveEntering_reverse {t : Title} (reverse : t.exit = .reverse) :
    leaveEntering t = ({ t with phase := .showing .turning }, [.left]) := by
  simp [leaveEntering, reverse]

/-! ### RESUME (05 R96) -/

/-- A HELD title back in the phase it was held from, at a standstill (05 R96). -/
def Title.resumed (t : Title) (c : Course) : Title :=
  { t with phase := .showing c, velocity := 0, creepLeft := 0, leavePlanned := false }

section
variable {t : Title} {c : Course} (held : t.phase = .held c)

include held

theorem resumeTitle_free (free : t.leavePlanned = false) :
    resumeTitle t = some ({ t with phase := .showing c, velocity := 0, creepLeft := 0 }, []) := by
  simp [resumeTitle, held, free]

theorem resumeTitle_planned (planned : t.leavePlanned = true) :
    resumeTitle t = some (plannedLeave (t.resumed c)) := by
  rw [resumeTitle, held, planned]
  rfl

end

theorem plannedLeave_dwell (t : Title) :
    plannedLeave (t.resumed .dwell) =
      ({ t.resumed .dwell with marks := { t.marks with endMark := true } }, []) := rfl

/-- Back in ENTERING, a planned leave goes by the exit that the title holds (05 R93). -/
theorem plannedLeave_entering (t : Title) :
    plannedLeave (t.resumed .entering) = leaveEntering (t.resumed .entering) := rfl

/-- A planned leave back in TURNING or LEAVING is dropped (log 24). -/
theorem plannedLeave_dropped (t : Title) {c : Course} (leaves : c = .turning ∨ ∃ manner, c = .leaving manner) :
    plannedLeave (t.resumed c) = (t.resumed c, []) := by
  obtain rfl | ⟨manner, rfl⟩ := leaves <;> rfl

/-- Settles O46: LEAVE by phase, an ENTERING title by its exit, and RESUME by the phase held from and the leave
planned. -/
theorem leaveAndResumeByPhase : Obligations.LeaveAndResumeByPhase := by
  intro s h t live ended
  refine ⟨fun w => ?leave, fun w => ?resume⟩
  case leave =>
    have byExit (entering : t.phase = .showing .entering) {v : TitleWork}
        (work : leaveEntering { t with byCommand := true } = v) : leaveTitle t = some v :=
      work ▸ leaveTitle_entering entering
    refine ⟨fun waits => ?_, fun dwelling => ?_, fun entering cut => ?_, fun entering fade => ?_,
      fun entering reverse => ?_, fun held => ?_⟩
    · exact exec_settles w rfl rfl live (leaveTitle_unshown waits)
    · exact exec_replaces w rfl rfl live (leaveTitle_dwell dwelling)
    · exact exec_settles w rfl rfl live (byExit entering (leaveEntering_cut cut rfl))
    · exact exec_replaces w rfl rfl live (byExit entering (leaveEntering_fade fade))
    · exact exec_settles w rfl rfl live (byExit entering (leaveEntering_reverse reverse))
    · exact exec_replaces w rfl rfl live (leaveTitle_held held)
  case resume =>
    have carried {c : Course} (held : t.phase = .held c) (planned : t.leavePlanned = true) {v : TitleWork}
        (work : plannedLeave (t.resumed c) = v) : resumeTitle t = some v :=
      work ▸ resumeTitle_planned held planned
    refine ⟨fun c held free => ?_, fun held planned => ?_, fun held planned cut byCommand => ?_,
      fun held planned fade => ?_, fun held planned reverse => ?_, fun c held leaves planned => ?_⟩
    · exact exec_replaces w rfl rfl live (resumeTitle_free held free)
    · exact exec_replaces w rfl rfl live (carried held planned (plannedLeave_dwell t))
    · exact exec_settles w rfl rfl live
        (carried held planned ((plannedLeave_entering t).trans (leaveEntering_cut cut byCommand)))
    · exact exec_replaces w rfl rfl live
        (carried held planned ((plannedLeave_entering t).trans (leaveEntering_fade fade)))
    · exact exec_settles w rfl rfl live
        (carried held planned ((plannedLeave_entering t).trans (leaveEntering_reverse reverse)))
    · exact exec_replaces w rfl rfl live (carried held planned (plannedLeave_dropped t leaves))

end Sys2Proof.Machine
end

section
/-! ## One motion step (06 R102 to R108), and the geometry of each kind (06 R111 to R115) -/

namespace Sys2Proof.Machine

open Sys2Proof

/-! ### The stopping distance (06 R103) -/

theorem Ramp.stopping_of_le {r : Ramp} {v : Nat} (slow : v ≤ r.startRate) : r.stopping v = 0 :=
  if_pos slow

/-- Above the start rate the sum has one term more than the sum from the velocity that its first term leaves. With a
deceleration of 0 the number of terms would be a quotient by 0. -/
theorem Ramp.stopping_of_lt {r : Ramp} {v : Nat} (slows : 1 ≤ r.decel) (fast : r.startRate < v) :
    r.stopping v = max r.startRate (v - r.decel) + r.stopping (v - r.decel) := by
  rw [Ramp.stopping, if_neg (by omega)]
  by_cases last : v - r.decel ≤ r.startRate
  · have one : (v - r.startRate + r.decel - 1) / r.decel = 0 + 1 :=
      Nat.div_eq_of_lt_le (by omega) (by omega)
    rw [one, Ramp.slowingSum_succ, Ramp.stopping_of_le last, Ramp.slowingSum]
  · have fewer : v - r.startRate + r.decel - 1 = v - r.decel - r.startRate + r.decel - 1 + r.decel := by omega
    rw [fewer, Nat.add_div_right _ slows, Ramp.slowingSum_succ, Ramp.stopping, if_neg last]

/-! ### The velocity (06 R105) -/

theorem Ramp.towardRun_rest {r : Ramp} (below : 0 < r.effectiveRun) : r.towardRun 0 = r.startRate := by
  simp [Ramp.towardRun, below]

theorem Ramp.towardRun_below {r : Ramp} {v : Nat} (below : v < r.effectiveRun) (moving : v ≠ 0) :
    r.towardRun v = min r.effectiveRun (max r.startRate (v + r.accel)) := by
  simp [Ramp.towardRun, below, moving]

theorem Ramp.towardRun_at (r : Ramp) : r.towardRun r.effectiveRun = r.effectiveRun := by
  simp [Ramp.towardRun]

theorem Ramp.towardRun_above {r : Ramp} {v : Nat} (above : r.effectiveRun < v) :
    r.towardRun v = max r.effectiveRun (v - r.decel) := by
  simp [Ramp.towardRun, above, above.le]

section
variable {t : Title} {r : Ramp}

theorem Title.backward_iff : t.backward = true ↔ t.phase = .showing (.leaving .reverse) := by
  simp [Title.backward]

theorem Title.creeping_iff : t.creeping = true ↔ t.phase = .showing .entering ∧ 0 < t.creepLeft := by
  simp [Title.creeping]

theorem Title.remaining_eq (ramp : t.motion.ramp = some r) :
    t.remaining = if t.phase = .showing (.leaving .reverse) then t.travel else r.course - t.travel := by
  simp only [Title.remaining, Title.backward_iff, Motion.course, ramp]

theorem Title.decelAfterTest_creeping (creeps : t.creeping = true) : t.decelAfterTest r = t.marks.decel :=
  if_pos creeps

theorem Title.decelAfterTest_iff (free : ¬t.creeping = true) :
    t.decelAfterTest r = true ↔ t.marks.decel = true ∨ t.remaining ≤ r.threshold t.velocity := by
  rw [Title.decelAfterTest, if_neg free, Bool.or_eq_true, decide_eq_true_iff]

theorem Title.chosenVelocity_creeping (creeps : t.creeping = true) : t.chosenVelocity r = r.startRate :=
  if_pos creeps

theorem Title.chosenVelocity_slowing (free : ¬t.creeping = true)
    (slows : t.decelAfterTest r = true ∨ t.phase = .showing .turning) :
    t.chosenVelocity r = max r.startRate (t.velocity - r.decel) := by
  rw [Title.chosenVelocity, if_neg free, if_pos (by simpa using slows)]

theorem Title.chosenVelocity_toward (free : ¬t.creeping = true) (drives : t.decelAfterTest r = false)
    (straight : t.phase ≠ .showing .turning) : t.chosenVelocity r = r.towardRun t.velocity := by
  rw [Title.chosenVelocity, if_neg free, if_neg (by simp [drives, straight])]

/-! ### The move (06 R106 to R108) -/

/-- A title that has gone one motion step, its displayed geometry not yet computed again. -/
def Title.moved (t : Title) (r : Ramp) : Title :=
  { t with
    marks := { t.marks with decel := t.decelAfterTest r }
    velocity := t.chosenVelocity r
    travel :=
      if t.backward then t.travel - min (t.chosenVelocity r) t.remaining
      else t.travel + min (t.chosenVelocity r) t.remaining
    creepLeft :=
      if t.remaining ≤ t.chosenVelocity r then 0 else if t.creeping then t.creepLeft - 1 else t.creepLeft }

/-- The remaining course is reached where the velocity chosen is no less (06 R108). -/
theorem motionStep_of_ramp (ramp : t.motion.ramp = some r) :
    motionStep t =
      { title := (t.moved r).redisplay
        complete := decide (t.remaining ≤ t.chosenVelocity r)
        atStartRate := decide (t.chosenVelocity r = r.startRate) } := by
  have reached : t.remaining - min (t.chosenVelocity r) t.remaining = 0 ↔ t.remaining ≤ t.chosenVelocity r := by omega
  simp only [motionStep, ramp, reached, decide_eq_true_iff, Title.moved]

theorem Title.moved_travel_back (ramp : t.motion.ramp = some r) (back : t.phase = .showing (.leaving .reverse)) :
    (t.moved r).travel = t.travel - min (t.chosenVelocity r) t.travel := by
  simp only [Title.moved, Title.backward_iff, Title.remaining_eq ramp, back, if_true]

theorem Title.moved_travel_forward (ramp : t.motion.ramp = some r) (onward : t.phase ≠ .showing (.leaving .reverse)) :
    (t.moved r).travel = t.travel + min (t.chosenVelocity r) (r.course - t.travel) := by
  simp only [Title.moved, Title.backward_iff, Title.remaining_eq ramp, onward, if_false]

theorem Title.moved_travel_le (ramp : t.motion.ramp = some r) (within : t.travel ≤ r.course) :
    (t.moved r).travel ≤ r.course := by
  have course : t.motion.course = r.course := by rw [Motion.course, ramp]
  have moved := motionStep_within (t := t) (within.trans_eq course.symm)
  rw [motionStep_of_ramp ramp, Title.WithinCourse, Title.redisplay_travel, Title.redisplay_motion] at moved
  exact moved.trans_eq course

/-! ### The geometry after a step (06 R111, R116) -/

theorem Phase.isFading_eq_false {p : Phase} (showing : p ≠ .showing (.leaving .fade))
    (held : p ≠ .held (.leaving .fade)) : p.isFading = false := by
  unfold Phase.isFading
  split
  · exact absurd rfl showing
  · exact absurd rfl held
  · rfl

/-- The formula reads nothing that computing the geometry writes. -/
theorem Title.redisplay_disp (showing : t.phase ≠ .showing (.leaving .fade))
    (held : t.phase ≠ .held (.leaving .fade)) : t.redisplay.disp = t.redisplay.formula := by
  rw [Title.redisplay_of_not_fading (Phase.isFading_eq_false showing held)]
  rfl

theorem Title.redisplay_frame (t : Title) :
    t.redisplay.place = t.place ∧ t.redisplay.dwellLeft = t.dwellLeft ∧ t.redisplay.turnPause = t.turnPause := by
  unfold Title.redisplay
  split <;> exact ⟨rfl, rfl, rfl⟩

end

/-- Settles O52: the test, the velocity, the move, completion, creep and the geometry of one motion step, the stopping
distance of AUTO as a recursion, and the geometry of each kind. -/
theorem motionStepFollowsTheRamp : Obligations.MotionStepFollowsTheRamp := by
  refine ⟨fun r side vert reach => ⟨rfl, rfl, rfl, rfl, rfl⟩, fun t r ramp within => ?step,
    fun r v slows => ?stopping, fun t => ?geometry⟩
  case step =>
    obtain ⟨place, dwellLeft, turnPause⟩ := (t.moved r).redisplay_frame
    simp only [motionStep_of_ramp ramp, ← Title.remaining_eq ramp, ← Title.creeping_iff, Title.redisplay_velocity,
      Title.redisplay_marks, Title.redisplay_travel, Title.redisplay_creepLeft, decide_eq_true_iff]
    refine ⟨fun creeps => ⟨Title.chosenVelocity_creeping creeps, ?marks⟩,
      fun free => ⟨Title.decelAfterTest_iff free, rfl, rfl, Title.chosenVelocity_slowing free, ?toward⟩,
      Title.moved_travel_back ramp, Title.moved_travel_forward ramp, Title.moved_travel_le ramp within,
      Iff.rfl, Iff.rfl, rfl, Title.redisplay_disp (t := t.moved r),
      Title.redisplay_phase _, place, Title.redisplay_motion _, dwellLeft, turnPause⟩
    case marks => simp only [Title.moved, Title.decelAfterTest_creeping creeps]
    case toward =>
      intro drives straight
      rw [show (t.moved r).velocity = r.towardRun t.velocity from
        Title.chosenVelocity_toward free drives straight]
      refine ⟨fun below rest => ?_, Ramp.towardRun_below, fun same => ?_, Ramp.towardRun_above⟩
      · rw [rest] at below ⊢
        exact Ramp.towardRun_rest below
      · rw [same]
        exact r.towardRun_at
  case stopping =>
    split
    next slow => exact Ramp.stopping_of_le slow
    next fast => exact Ramp.stopping_of_lt slows (Nat.lt_of_not_le fast)
  case geometry =>
    refine ⟨fun kind => ?_, fun r kind => ?_, fun r kind => ?_, fun r kind => ?_, fun r reach kind => ?_,
      fun r reach kind => ?_, fun r reach kind => ?_, fun r reach kind => ?_⟩
    all_goals
      rw [Title.formula, kind] <;> rfl

end Sys2Proof.Machine
end

section
/-! ## The amendment queue: staging, and the commands that hold, report and discard (07 R122 to R126, R131 to R133) -/

namespace Sys2Proof.Machine

open Sys2Proof

/-! ### The choices and the ranges of the items (07 R122, R123) -/

/-- A value that is none of its item's choices, with the codes written out (07, the amendable items). -/
def ItemOutOfChoices (item value : Nat) : Prop :=
  match item with
  | 2 => 2 < value
  | 9 => 1 < value
  | 12 => 4 < value
  | 13 => 3 < value
  | 22 => 5 < value
  | 25 => 5 < value
  | 26 => 2 < value
  | 28 => 1 < value
  | _ => False

theorem choiceOk_eq_false_iff (item value : Nat) : choiceOk item value = false ↔ ItemOutOfChoices item value := by
  unfold choiceOk ItemOutOfChoices
  split <;> simp [FieldMask.ofCode_isSome, KeySense.ofCode_isSome, StartCond.ofCode_isSome, EndCond.ofCode_isSome,
    Exit.ofCode_isSome, flagOfCode_isSome]

/-- The value that each item takes at staging, with its range written out (07 R123). -/
def itemTaken (pix item value : Nat) : Nat :=
  match item with
  | 1 => within 0 7 value
  | 3 => within 16 312 value
  | 4 => within 1 297 value
  | 5 => within 0 (pix - 1) value
  | 6 => if pix = 0 then 1 else within 1 pix value
  | 7 => within 0 15 value
  | 8 => within 0 15 value
  | 10 => within 0 3 value
  | 11 => within 0 63 value
  | 15 => within 1 4095 value
  | 16 => within 1 4095 value
  | 17 => within 1 4095 value
  | 18 => within 1 4095 value
  | 20 => within 0 255 value
  | 21 => within 0 1023 value
  | 27 => within 1 63 value
  | _ => value

/-- A line of no samples still has the width 1. -/
theorem clamp_width (pix value : Nat) : clamp 1 pix value = if pix = 0 then 1 else within 1 pix value := by
  split
  next empty => subst empty; simp [clamp]
  next some => exact clamp_eq_within (Nat.one_le_iff_ne_zero.mpr some) value

theorem clampItem_eq_taken (pix item value : Nat) : clampItem pix item value = itemTaken pix item value := by
  unfold clampItem itemTaken
  split
  case h_5 => exact clamp_width pix value
  case h_17 => simp_all
  all_goals exact clamp_eq_within (by omega) value

theorem clamp_deviceTop (item value : Nat) :
    clamp 0 (deviceTop item) value = min value (if item = 2 then 31 else 255) :=
  Nat.zero_max _

/-! ### An entry staged (07 R126) -/

theorem AmendmentQueue.holds_iff (q : AmendmentQueue) (handle item : Nat) :
    q.holds handle item = true ↔ ∃ e ∈ q.entries, e.handle = handle ∧ e.item = item := by
  simp [AmendmentQueue.holds]

theorem AmendmentQueue.stage_of_held {q : AmendmentQueue} {n : Entry}
    (held : ∃ e ∈ q.entries, e.handle = n.handle ∧ e.item = n.item) :
    q.stage n = some { q with entries := q.entries.map (replaceEntry n) } :=
  if_pos ((q.holds_iff _ _).mpr held)

theorem AmendmentQueue.stage_of_new {q : AmendmentQueue} {n : Entry}
    (new : ∀ e ∈ q.entries, ¬(e.handle = n.handle ∧ e.item = n.item)) :
    q.stage n = if q.entries.length < 32 then some { q with entries := q.entries ++ [n] } else none :=
  if_neg fun held => by
    obtain ⟨e, mem, same⟩ := (q.holds_iff _ _).mp held
    exact new e mem same

section

variable {s : State} {e : Entry} (code : Byte) (given param : Nat)

theorem finish_stageEntry_of_some {q : AmendmentQueue} (staged : s.aq.stage e = some q) :
    finish code (s.endCollection.stageEntry given e param) =
      ({ s with aq := q } : State).answered code
        (if e.value = given then Reply.good [] else Reply.adjusted e.handle param []) := by
  rw [State.stageEntry, show s.endCollection.aq.stage e = some q from staged]
  exact finish_endCollection { s with aq := q } code _

theorem finish_stageEntry_of_none (full : s.aq.stage e = none) :
    finish code (s.endCollection.stageEntry given e param) =
      s.answered code (Reply.check .resource 2 e.handle 0) := by
  rw [State.stageEntry, show s.endCollection.aq.stage e = none from full]
  exact finish_endCollection s code _

end

/-! ### AMEND TITLE (07 R122 to R124) -/

theorem exec_amendTitle {s : State} {h item lo : Byte} (w : s.Awaits .amendTitle [h, item, lo]) (hi : Byte) :
    exec (.amendTitle hi) s = .next (finish 0x11 (doAmendTitle [h, item, lo, hi] s.endCollection)) :=
  congrArg Host.Outcome.next (State.lastByte_performed w hi 0x11 doAmendTitle)

/-- AMEND TITLE in its checks: the choice, the title, the item, the phase, and then the staging. -/
theorem doAmendTitle_eq (h item lo hi : Byte) (s : State) :
    doAmendTitle [h, item, lo, hi] s =
      let value := lo.toNat + 256 * hi.toNat
      if choiceOk item.toNat value = false then (s, Reply.badChoice 3)
      else
        s.onTitle h.toNat fun t =>
          if item.toNat < 1 ∨ 28 < item.toNat then (s, Reply.badItem 2)
          else if (item.toNat = 22 ∨ item.toNat = 23) ∧ t.phase.beforeStart = false then
            (s, Reply.wrongPhase h.toNat t)
          else
            s.stageEntry value
              { handle := h.toNat, item := item.toNat, value := clampItem s.settings.pixTotal item.toNat value } 3 :=
  rfl

section

variable {s : State} {h item lo : Byte} (w : s.Awaits .amendTitle [h, item, lo]) (hi : Byte)

include w

theorem exec_amendTitle_badChoice (bad : ItemOutOfChoices item.toNat (lo.toNat + 256 * hi.toNat)) :
    exec (.amendTitle hi) s = .next (s.answered 0x11 (Reply.badChoice 3)) := by
  rw [exec_amendTitle w, doAmendTitle_eq]
  dsimp only
  rw [if_pos ((choiceOk_eq_false_iff _ _).mpr bad), finish_endCollection]

variable (good : ¬ItemOutOfChoices item.toNat (lo.toNat + 256 * hi.toNat))

include good

theorem exec_amendTitle_free (free : s.title h.toNat = none) :
    exec (.amendTitle hi) s = .next (s.answered 0x11 (Reply.check .illegalRequest 2 h.toNat 0)) := by
  rw [exec_amendTitle w, doAmendTitle_eq]
  dsimp only
  rw [if_neg (mt (choiceOk_eq_false_iff _ _).mp good), finish_noSuchTitle free]

/-- With the choice and the title good, the item and the phase are examined. -/
theorem exec_amendTitle_live {t : Title} (live : s.title h.toNat = some t) :
    exec (.amendTitle hi) s =
      .next (finish 0x11
        (if item.toNat < 1 ∨ 28 < item.toNat then (s.endCollection, Reply.badItem 2)
        else if (item.toNat = 22 ∨ item.toNat = 23) ∧ t.phase.beforeStart = false then
          (s.endCollection, Reply.wrongPhase h.toNat t)
        else
          s.endCollection.stageEntry (lo.toNat + 256 * hi.toNat)
            { handle := h.toNat, item := item.toNat
              value := itemTaken s.settings.pixTotal item.toNat (lo.toNat + 256 * hi.toNat) } 3)) := by
  rw [exec_amendTitle w, doAmendTitle_eq]
  dsimp only
  rw [if_neg (mt (choiceOk_eq_false_iff _ _).mp good), State.onTitle_of_some (s := s.endCollection) live,
    clampItem_eq_taken]
  rfl

theorem exec_amendTitle_badItem {t : Title} (live : s.title h.toNat = some t)
    (bad : item.toNat = 0 ∨ 28 < item.toNat) :
    exec (.amendTitle hi) s = .next (s.answered 0x11 (Reply.badItem 2)) := by
  rw [exec_amendTitle_live w hi good live, if_pos (by omega), finish_endCollection]

theorem exec_amendTitle_wrongPhase {t : Title} (live : s.title h.toNat = some t)
    (start : item.toNat = 22 ∨ item.toNat = 23) (begun : t.phase.beforeStart = false) :
    exec (.amendTitle hi) s = .next (s.answered 0x11 (Reply.wrongPhase h.toNat t)) := by
  rw [exec_amendTitle_live w hi good live, if_neg (by omega), if_pos ⟨start, begun⟩, finish_endCollection]

theorem exec_amendTitle_staged {t : Title} (live : s.title h.toNat = some t) (low : 1 ≤ item.toNat)
    (high : item.toNat ≤ 28) (early : item.toNat = 22 ∨ item.toNat = 23 → t.phase.beforeStart = true) :
    exec (.amendTitle hi) s =
      .next (finish 0x11 (s.endCollection.stageEntry (lo.toNat + 256 * hi.toNat)
        { handle := h.toNat, item := item.toNat
          value := itemTaken s.settings.pixTotal item.toNat (lo.toNat + 256 * hi.toNat) } 3)) := by
  rw [exec_amendTitle_live w hi good live, if_neg (by omega),
    if_neg fun refused => Bool.false_ne_true (refused.2.symm.trans (early refused.1))]

end

/-! ### SET TIMING (07 R125) -/

theorem exec_setTiming {s : State} {item lo : Byte} (w : s.Awaits .setTiming [item, lo]) (hi : Byte) :
    exec (.setTiming hi) s = .next (finish 0x30 (doSetTiming [item, lo, hi] s.endCollection)) :=
  congrArg Host.Outcome.next (State.lastByte_performed w hi 0x30 doSetTiming)

theorem doSetTiming_eq (item lo hi : Byte) (s : State) :
    doSetTiming [item, lo, hi] s =
      let value := lo.toNat + 256 * hi.toNat
      if item.toNat < 1 ∨ 3 < item.toNat then (s, Reply.badItem 1)
      else s.stageEntry value { handle := 0, item := item.toNat, value := clamp 0 (deviceTop item.toNat) value } 2 :=
  rfl

theorem exec_setTiming_badItem {s : State} {item lo : Byte} (w : s.Awaits .setTiming [item, lo]) (hi : Byte)
    (bad : item.toNat = 0 ∨ 3 < item.toNat) :
    exec (.setTiming hi) s = .next (s.answered 0x30 (Reply.badItem 1)) := by
  rw [exec_setTiming w, doSetTiming_eq]
  dsimp only
  rw [if_pos (by omega), finish_endCollection]

theorem exec_setTiming_staged {s : State} {item lo : Byte} (w : s.Awaits .setTiming [item, lo]) (hi : Byte)
    (low : 1 ≤ item.toNat) (high : item.toNat ≤ 3) :
    exec (.setTiming hi) s =
      .next (finish 0x30 (s.endCollection.stageEntry (lo.toNat + 256 * hi.toNat)
        { handle := 0, item := item.toNat
          value := min (lo.toNat + 256 * hi.toNat) (if item.toNat = 2 then 31 else 255) } 2)) := by
  rw [exec_setTiming w, doSetTiming_eq]
  dsimp only
  rw [if_neg (by omega), clamp_deviceTop]

/-- Settles O48: AMEND TITLE and SET TIMING check by check up to the staging, and the queue by whether it holds an entry
of the handle and item and has room. -/
theorem amendmentsAreCheckedClampedAndStaged : Obligations.AmendmentsAreCheckedClampedAndStaged := by
  refine ⟨?amendTitle, ?setTiming, ?stage⟩
  case amendTitle =>
    intro s h item lo hi w value outOfChoices pix clamped n reply
    refine ⟨exec_amendTitle_badChoice w hi, exec_amendTitle_free w hi, fun t good live =>
      ⟨exec_amendTitle_badItem w hi good live, fun start notDormant notArmed => ?_, fun low high early => ?_⟩⟩
    · refine exec_amendTitle_wrongPhase w hi good live start (Bool.eq_false_iff.mpr fun before => ?_)
      exact (t.phase.beforeStart_iff.mp before).elim notDormant notArmed
    · have run := exec_amendTitle_staged w hi good live low high fun start => t.phase.beforeStart_iff.mpr (early start)
      exact ⟨fun q staged => run.trans (congrArg Host.Outcome.next (finish_stageEntry_of_some 0x11 value 3 staged)),
        fun full => run.trans (congrArg Host.Outcome.next (finish_stageEntry_of_none 0x11 value 3 full))⟩
  case setTiming =>
    intro s item lo hi w value n reply
    refine ⟨exec_setTiming_badItem w hi, fun low high => ?_⟩
    have run := exec_setTiming_staged w hi low high
    exact ⟨fun q staged => run.trans (congrArg Host.Outcome.next (finish_stageEntry_of_some 0x30 value 2 staged)),
      fun full => run.trans (congrArg Host.Outcome.next (finish_stageEntry_of_none 0x30 value 2 full))⟩
  case stage =>
    intro q n same
    refine ⟨fun held => ⟨_, AmendmentQueue.stage_of_held held, List.length_map .., fun k e at_k => ?_⟩,
      fun new => ⟨fun room => ?_, fun full => ?_⟩⟩
    · rw [List.getElem?_map, at_k, Option.map_some, replaceEntry]
      exact ⟨fun replaced => congrArg some (if_pos replaced), fun kept => congrArg some (if_neg kept)⟩
    · rw [AmendmentQueue.stage_of_new new, if_pos room]
    · rw [AmendmentQueue.stage_of_new new, if_neg (Nat.not_lt.mpr full)]

/-! ### HOLD, APPLY, QUERY and DISCARD (07 R131 to R133) -/

theorem exec_holdAmendments {s : State} (w : s.Performs) :
    exec .holdAmendments s = .next (finish 0x31 (s.openCommand.setHeld true)) :=
  congrArg Host.Outcome.next (State.commandRow_performed w 0x31 fun s => s.setHeld true)

theorem exec_applyAmendments {s : State} (w : s.Performs) :
    exec .applyAmendments s = .next (finish 0x32 (s.openCommand.setHeld false)) :=
  congrArg Host.Outcome.next (State.commandRow_performed w 0x32 fun s => s.setHeld false)

theorem finish_setHeld (s : State) (code : Byte) (held : Bool) :
    finish code (s.openCommand.setHeld held) =
      ({ s.abandoning with aq := { s.aq with held := held } } : State).answered code (Reply.good []) := by
  rw [State.setHeld, finish_eq_answered _ _ _ rfl]
  rfl

theorem exec_queryPending {s : State} (w : s.Performs) :
    exec .queryPending s = .next (finish 0x33 (doQueryPending s.openCommand)) :=
  congrArg Host.Outcome.next (State.commandRow_performed w 0x33 doQueryPending)

theorem exec_discardPending {s : State} (w : s.Awaits .discardPending []) (h : Byte) :
    exec (.discardPending h) s = .next (finish 0x34 (doDiscardPending [h] s.endCollection)) :=
  congrArg Host.Outcome.next (State.lastByte_performed w h 0x34 doDiscardPending)

theorem not_discards_eq (h : Nat) (e : Entry) : (!discards h e) = decide (h ≠ 255 ∧ e.handle ≠ h) := by
  simp [discards, beq_eq_decide]

theorem doDiscardPending_eq (h : Byte) (s : State) :
    doDiscardPending [h] s =
      if 25 ≤ h.toNat ∧ h.toNat ≤ 254 then (s, Reply.check .illegalRequest 2 0 0)
      else
        let kept := s.aq.entries.filter fun e => decide (h.toNat ≠ 255 ∧ e.handle ≠ h.toNat)
        ({ s with aq := { s.aq with entries := kept } }, Reply.good [byteOf (s.aq.entries.length - kept.length)]) := by
  simp only [← not_discards_eq]
  rfl

/-- Settles O51: each command over the opened command, and DISCARD PENDING by its handle. -/
theorem queueCommandsHoldReportAndDiscard : Obligations.QueueCommandsHoldReportAndDiscard := by
  refine fun s => ⟨fun w => ⟨?hold, ?apply, ?query⟩, fun h w => ⟨fun named => ?discard, fun low high => ?refuse⟩⟩
  case hold => rw [exec_holdAmendments w, finish_setHeld]
  case apply => rw [exec_applyAmendments w, finish_setHeld]
  case query =>
    rw [exec_queryPending w, doQueryPending, byteOf_boolCode, finish_openCommand]
    rfl
  case discard =>
    rw [exec_discardPending w, doDiscardPending_eq, if_neg (by omega), finish_eq_answered _ _ _ rfl]
    rfl
  case refuse => rw [exec_discardPending w, doDiscardPending_eq, if_pos ⟨low, high⟩, finish_endCollection]

end Sys2Proof.Machine
end

section
/-! ## The commit of the amendment queue (07 R127 to R130) -/

namespace Sys2Proof.Machine

open Sys2Proof

/-! ### One entry applied (07 R125, R128) -/

theorem applyEntry_device {e : Entry} (device : e.handle = 0) (s : State) (written : Bool) :
    applyEntry (s, written) e = ({ s with stg := s.stg.writeDevice e.item e.value }, true) :=
  if_pos device

theorem applyEntry_free {s : State} {e : Entry} (title : e.handle ≠ 0) (free : s.title e.handle = none)
    (written : Bool) : applyEntry (s, written) e = (s, written) := by
  rw [applyEntry, if_neg title]
  dsimp only
  rw [free]

theorem applyEntry_live {s : State} {e : Entry} {t : Title} (title : e.handle ≠ 0)
    (live : s.title e.handle = some t) (written : Bool) :
    applyEntry (s, written) e =
      if t.permits e.item e.value then
        (s.setTitle e.handle (some (t.write s.settings.pixTotal e.item e.value)), true)
      else (s.notify e.handle .dropped, written) := by
  rw [applyEntry, if_neg title]
  dsimp only
  rw [live]

/-! ### The items that are not permitted (07 R128) -/

/-- Kind and approach wait for a phase in which no course is under way (06 R119). -/
theorem Title.permits_kind_eq_false {t : Title} {item : Nat} (kind : item = 12 ∨ item = 13)
    (busy : t.phase.admitsKind = false) (value : Nat) : t.permits item value = false := by
  rcases kind with rfl | rfl
  · exact busy
  · rw [show t.permits 13 value = (t.phase.admitsKind && (t.motion.setApproach value).isSome) from rfl, busy,
      Bool.false_and]

theorem Title.permits_motion_eq_false {t : Title} (none : t.motion = .none) {item : Nat} (low : 14 ≤ item)
    (high : item ≤ 21) (value : Nat) : t.permits item value = false := by
  by_cases reach : item = 21
  · rw [reach, show t.permits 21 value = t.motion.hasReach from rfl, none]
    rfl
  · rw [t.permits_motionItem low (by omega), none]
    rfl

/-! ### The whole queue (07 R127, R130) -/

theorem State.withEmptyQueue_of_released {s : State} (released : s.aq.held = false) :
    s.withEmptyQueue = { s with aq := { entries := [], held := false } } := by
  simp [State.withEmptyQueue, released]

/-- Settles O49: a commit that does not take place, one that does, and one entry by its handle and by whether the
record permits it. -/
theorem commitAppliesTheEntriesInOrder : Obligations.CommitAppliesTheEntriesInOrder := by
  refine fun s => ⟨State.commit_of_idle, fun released waiting => ?run, fun written e => ?entry⟩
  case run =>
    have applied := (applyEntries_core s.aq.entries (s, false)).held.trans released
    rw [State.commit_of_waiting (by simp [released, waiting])]
    dsimp only
    rw [State.withEmptyQueue_of_released applied]
  case entry =>
    have device (handle : e.handle = 0) := applyEntry_device handle s written
    refine ⟨fun handle item => ?_, fun handle item => ?_, fun handle item => ?_, fun title free => ?_,
      fun t title live => ⟨fun refused => ?_, fun permitted => ?_, fun kind notDormant notArmed notDwell notDone => ?_,
        fun low high none => Title.permits_motion_eq_false none low high _⟩⟩
    · rw [device handle, item]; rfl
    · rw [device handle, item]; rfl
    · rw [device handle, item]; rfl
    · exact applyEntry_free title free written
    · rw [applyEntry_live title live, if_neg (by simp [refused])]
    · rw [applyEntry_live title live, if_pos permitted, State.setTitle, if_neg title]
    · refine Title.permits_kind_eq_false kind (Bool.eq_false_iff.mpr fun admitted => ?_) _
      obtain (dormant | armed) | dwell | ⟨o, done⟩ := t.phase.admitsKind_iff.mp admitted
      · exact notDormant dormant
      · exact notArmed armed
      · exact notDwell dwell
      · exact notDone o done

end Sys2Proof.Machine
end

section
/-! ## The span list and the key rule (08 R137 to R139, R143) -/

namespace Sys2Proof.Machine

open Sys2Proof

/-! ### The key rule (08 R143) -/

/-- The masked difference of index and key colour is zero exactly where no selected plane differs. -/
theorem Span.agrees_iff (sp : Span) (index : BitVec 4) :
    sp.agrees index = true ↔
      ∀ plane < 4, sp.mask.getLsbD plane = true → index.getLsbD plane = sp.colour.getLsbD plane := by
  rw [Span.agrees, beq_iff_eq, BitVec.eq_of_getLsbD_eq_iff]
  refine forall₂_congr fun plane _ => ?_
  rw [BitVec.getLsbD_and, BitVec.getLsbD_xor, BitVec.ofNat_eq_ofNat, BitVec.getLsbD_zero]
  cases sp.mask.getLsbD plane <;> simp

/-- Settles O29, by the sense. -/
theorem keyRuleComparesTheSelectedPlanes : Obligations.KeyRuleComparesTheSelectedPlanes := by
  intro sp index agree
  have agrees : sp.agrees index = true ↔ agree := sp.agrees_iff index
  refine ⟨fun normal => ?_, fun inverse => ?_⟩
  · rw [Span.keysOpaque, normal, ← agrees]
    simp
  · rw [Span.keysOpaque, inverse, ← agrees]

/-! ### The candidates of a line (08 R137) -/

theorem FieldMask.admits_iff (m : FieldMask) (p : Parity) :
    m.admits p = true ↔ m = .both ∨ (m = .a ∧ p = .a) ∨ (m = .b ∧ p = .b) := by
  cases m <;> cases p <;> simp [FieldMask.admits]

theorem Title.covers_iff (t : Title) (p : Parity) (y : Nat) :
    t.covers p y = true ↔
      t.phase.isShowing = true ∧
        (t.place.mask = .both ∨ (t.place.mask = .a ∧ p = .a) ∨ (t.place.mask = .b ∧ p = .b)) ∧
        16 ≤ y ∧ t.disp.top ≤ (y : Int) ∧ (y : Int) < t.disp.top + t.place.height ∧ 0 < t.disp.width := by
  simp only [Title.covers, Bool.and_eq_true, decide_eq_true_iff, FieldMask.admits_iff, and_assoc]

/-- The record under a handle as a candidate, where it covers the line. -/
def State.candidate (s : State) (p : Parity) (y h : Nat) : Option Candidate :=
  ((s.title h).filter fun t => t.covers p y).map fun t => (h, t)

theorem State.candidates_eq (s : State) (p : Parity) (y : Nat) :
    s.candidates p y = handles.filterMap (s.candidate p y) := by
  refine List.filterMap_congr fun h _ => ?_
  rw [State.candidate]
  cases s.title h with
  | none => rfl
  | some t => cases covers : t.covers p y <;> simp [Option.filter, covers]

theorem State.candidate_eq_some_iff (s : State) (p : Parity) (y h : Nat) (c : Candidate) :
    s.candidate p y h = some c ↔ h = c.1 ∧ s.title h = some c.2 ∧ c.2.covers p y = true := by
  obtain ⟨g, t⟩ := c
  simp only [State.candidate, Option.map_eq_some_iff, Option.filter_eq_some_iff, Prod.mk.injEq]
  exact ⟨fun ⟨_, ⟨live, covers⟩, same, rfl⟩ => ⟨same, live, covers⟩,
    fun ⟨same, live, covers⟩ => ⟨t, ⟨live, covers⟩, same, rfl⟩⟩

theorem State.mem_candidates_iff (s : State) (p : Parity) (y h : Nat) (t : Title) :
    (h, t) ∈ s.candidates p y ↔ s.title h = some t ∧ h ≤ 24 ∧ t.covers p y = true := by
  simp only [State.candidates_eq, List.mem_filterMap, State.candidate_eq_some_iff, handles, List.mem_range'_1]
  refine ⟨fun ⟨g, inTable, same, live, covers⟩ => ?_, fun ⟨live, inTable, covers⟩ => ?_⟩
  · subst same
    exact ⟨live, by omega, covers⟩
  · have := (State.title_some_range live).1
    exact ⟨h, by omega, rfl, live, covers⟩

theorem State.candidates_by_handle (s : State) (p : Parity) (y : Nat) :
    (s.candidates p y).Pairwise fun a b => a.1 < b.1 := by
  rw [State.candidates_eq, List.pairwise_filterMap]
  refine (List.pairwise_lt_range' (s := 1) (n := 24)).imp fun {g h} below a found b found' => ?_
  rw [← ((s.candidate_eq_some_iff p y g a).mp found).1, ← ((s.candidate_eq_some_iff p y h b).mp found').1]
  exact below

/-! ### The order of the candidates (08 R138) -/

/-- Whether a candidate comes before another: by priority, and within a priority by handle (08 R138). -/
def Candidate.Above (a b : Candidate) : Prop :=
  b.2.place.prio < a.2.place.prio ∨ (a.2.place.prio = b.2.place.prio ∧ a.1 < b.1)

theorem Candidate.Above.of_prio_le {a b : Candidate} (prio : b.2.place.prio ≤ a.2.place.prio) (handle : a.1 < b.1) :
    a.Above b :=
  (Nat.lt_or_eq_of_le prio).imp_right fun same => ⟨same.symm, handle⟩

theorem Candidate.Above.prio_le {a b : Candidate} (above : a.Above b) : b.2.place.prio ≤ a.2.place.prio :=
  above.elim Nat.le_of_lt fun same => Nat.le_of_eq same.1.symm

theorem placeCandidate_perm (c : Candidate) (cs : List Candidate) : (placeCandidate c cs).Perm (c :: cs) := by
  induction cs with
  | nil => exact .refl _
  | cons d rest ih =>
    unfold placeCandidate
    split
    · exact (ih.cons d).trans (.swap c d rest)
    · exact .refl _

/-- A candidate with a higher handle than all that are placed keeps the order. -/
theorem placeCandidate_pairwise {c : Candidate} {cs : List Candidate} (placed : cs.Pairwise Candidate.Above)
    (last : ∀ d ∈ cs, d.1 < c.1) : (placeCandidate c cs).Pairwise Candidate.Above := by
  induction cs with
  | nil => exact List.pairwise_singleton _ _
  | cons d rest ih =>
    obtain ⟨aboveRest, ordered⟩ := List.pairwise_cons.mp placed
    obtain ⟨dLower, restLower⟩ := List.forall_mem_cons.mp last
    unfold placeCandidate
    split
    case isTrue prio =>
      refine List.pairwise_cons.mpr ⟨fun e among => ?_, ih ordered restLower⟩
      obtain rfl | inRest := List.mem_cons.mp ((placeCandidate_perm c rest).mem_iff.mp among)
      · exact .of_prio_le prio dLower
      · exact aboveRest e inRest
    case isFalse higher =>
      refine List.pairwise_cons.mpr ⟨List.forall_mem_cons.mpr ⟨?_, fun e inRest => ?_⟩, placed⟩
      · exact .inl (Nat.lt_of_not_le higher)
      · exact .inl (Nat.lt_of_le_of_lt (aboveRest e inRest).prio_le (Nat.lt_of_not_le higher))

/-- Candidates placed one after the other, as `State.ordered` places those of a line. -/
def placeAll (cs : List Candidate) : List Candidate :=
  cs.foldl (fun placed c => placeCandidate c placed) []

theorem State.ordered_eq_placeAll (s : State) (p : Parity) (y : Nat) : s.ordered p y = placeAll (s.candidates p y) :=
  rfl

theorem placeAll_concat (cs : List Candidate) (c : Candidate) :
    placeAll (cs ++ [c]) = placeCandidate c (placeAll cs) := by
  simp [placeAll]

theorem placeAll_perm (cs : List Candidate) : (placeAll cs).Perm cs := by
  induction cs using List.reverseRecOn with
  | nil => exact .refl _
  | append_singleton cs c ih =>
    rw [placeAll_concat]
    exact ((placeCandidate_perm c _).trans (ih.cons c)).trans (List.perm_append_singleton c cs).symm

theorem placeAll_pairwise {cs : List Candidate} (byHandle : cs.Pairwise fun a b => a.1 < b.1) :
    (placeAll cs).Pairwise Candidate.Above := by
  induction cs using List.reverseRecOn with
  | nil => exact .nil
  | append_singleton cs c ih =>
    obtain ⟨front, -, below⟩ := List.pairwise_append.mp byHandle
    rw [placeAll_concat]
    exact placeCandidate_pairwise (ih front) fun d placed =>
      below d ((placeAll_perm cs).mem_iff.mp placed) c (List.mem_singleton_self c)

theorem State.mem_ordered_iff (s : State) (p : Parity) (y h : Nat) (t : Title) :
    (h, t) ∈ s.ordered p y ↔ s.title h = some t ∧ h ≤ 24 ∧ t.covers p y = true := by
  rw [State.ordered_eq_placeAll, (placeAll_perm _).mem_iff, State.mem_candidates_iff]

/-! ### The spans (08 R138, R139) -/

theorem State.spans_getElem?_eq_some_iff (s : State) (p : Parity) (y k : Nat) (sp : Span) :
    (s.spans p y)[k]? = some sp ↔
      k < 8 ∧ ∃ c, (s.ordered p y)[k]? = some c ∧ spanOf s.stg.linePixTotal c = sp := by
  rw [State.spans, List.getElem?_map, Option.map_eq_some_iff, List.getElem?_take]
  by_cases early : k < 8 <;> simp [early]

/-- Settles O30: the length and the handles by the list's own form, the order by the placing, and the members by the
candidates. -/
theorem spanListHoldsTheTopmostEight : Obligations.SpanListHoldsTheTopmostEight := by
  refine fun s p y => ⟨?length, ?handles, ?order, fun h t => ?members, fun k sp at_k => ?span⟩
  case length => rw [State.spans, List.length_map, List.length_take, State.ordered_length]
  case handles => rw [State.spans, List.map_map]; rfl
  case order => exact placeAll_pairwise (s.candidates_by_handle p y)
  case members => rw [State.mem_ordered_iff, Title.covers_iff]
  case span =>
    obtain ⟨-, ⟨h, t⟩, placed, rfl⟩ := (s.spans_getElem?_eq_some_iff p y k sp).mp at_k
    exact ⟨h, t, placed, rfl⟩

end Sys2Proof.Machine
end

section
/-! ## The palette cycles (08 R150 to R153) -/

namespace Sys2Proof.Machine

open Sys2Proof

/-! ### The palette's own operations -/

theorem Palette.address_eq (p : Palette) (b : Byte) :
    p.address b =
      { p with
        cursor := (b &&& 0x3F).toNat
        direction := if b.getLsbD 7 then .read else .load
        component := .r
        cycleOpen := true
        stagedR := none
        stagedG := none } := by
  have entry : (b &&& 0x3F).toNat = b.toNat % 64 := by
    rw [BitVec.toNat_and]
    exact Nat.and_two_pow_sub_one_eq_mod b.toNat 6
  have top : b.getLsbD 7 = decide (128 ≤ b.toNat) := BitVec.msb_eq_decide b
  rw [Palette.address, entry, top]
  by_cases low : b.toNat < 128
  · simp [low, Nat.not_le.mpr low]
  · simp [low, Nat.le_of_not_lt low]

theorem Palette.loadByte_r {p : Palette} (red : p.component = .r) (b : Byte) :
    p.loadByte b = { p with stagedR := some (b.truncate 6), component := .g } := by
  rw [Palette.loadByte, red]

theorem Palette.loadByte_g {p : Palette} (green : p.component = .g) (b : Byte) :
    p.loadByte b = { p with stagedG := some (b.truncate 6), component := .b } := by
  rw [Palette.loadByte, green]

/-- The third byte stores the entry whole and moves the cursor (08 R151). -/
theorem Palette.loadByte_b {p : Palette} (blue : p.component = .b) {r g : BitVec 6} (red : p.stagedR = some r)
    (green : p.stagedG = some g) (b : Byte) :
    p.loadByte b =
      { p with
        entries := p.entries.set p.cursor { r := r, g := g, b := b.truncate 6 }
        stagedR := none
        stagedG := none
        cursor := (p.cursor + 1) % 64
        component := .r } := by
  rw [Palette.loadByte, blue, red, green]
  rfl

theorem Palette.afterRead_r {p : Palette} (red : p.component = .r) : p.afterRead = { p with component := .g } := by
  rw [Palette.afterRead, red]

theorem Palette.afterRead_g {p : Palette} (green : p.component = .g) : p.afterRead = { p with component := .b } := by
  rw [Palette.afterRead, green]

theorem Palette.afterRead_b {p : Palette} (blue : p.component = .b) :
    p.afterRead = { p with cursor := (p.cursor + 1) % 64, component := .r } := by
  rw [Palette.afterRead, blue]
  rfl

/-! ### The four rows, with RESET high -/

theorem State.readAccess_up {s : State} (up : s.pins.resetLow = false) (byte : Byte) (after : State) :
    s.readAccess byte after = { after with cpr := { after.cpr with readData := some byte } } :=
  if_neg (by simp [up])

theorem exec_paletteAddressWrite {s : State} (up : s.pins.resetLow = false) (b : Byte) :
    exec (.paletteAddressWrite b) s = .next { s with op := s.op.address b } :=
  congrArg Host.Outcome.next (if_neg (by simp [up]))

theorem exec_paletteAddressRead {s : State} (up : s.pins.resetLow = false) :
    exec .paletteAddressRead s = .next { s with cpr := { s.cpr with portFault := true, readData := some 0 } } :=
  congrArg Host.Outcome.next (State.readAccess_up up 0 s.portFault)

/-- A data write in an open LOAD cycle (08 R151). -/
theorem exec_paletteDataWrite_load {s : State} (up : s.pins.resetLow = false) (cycleOpen : s.op.cycleOpen = true)
    (load : s.op.direction = .load) (b : Byte) :
    exec (.paletteDataWrite b) s = .next { s with op := s.op.loadByte b } :=
  congrArg Host.Outcome.next ((if_neg (by simp [up])).trans (if_pos ⟨cycleOpen, load⟩))

theorem exec_paletteDataWrite_mismatch {s : State} (up : s.pins.resetLow = false)
    (mismatch : ¬(s.op.cycleOpen = true ∧ s.op.direction = .load)) (b : Byte) :
    exec (.paletteDataWrite b) s = .next { s with op := s.op.mismatch, cpr := { s.cpr with portFault := true } } :=
  congrArg Host.Outcome.next ((if_neg (by simp [up])).trans (if_neg mismatch))

/-- A data read in an open READ cycle (08 R152). -/
theorem exec_paletteDataRead_read {s : State} (up : s.pins.resetLow = false) (cycleOpen : s.op.cycleOpen = true)
    (read : s.op.direction = .read) :
    exec .paletteDataRead s =
      .next { s with
        op := s.op.afterRead
        cpr := { s.cpr with
          readData := some (((s.op.entry s.op.cursor).part s.op.component).zeroExtend 8) } } :=
  congrArg Host.Outcome.next ((if_pos ⟨cycleOpen, read⟩).trans (State.readAccess_up up _ _))

theorem exec_paletteDataRead_mismatch {s : State} (up : s.pins.resetLow = false)
    (mismatch : ¬(s.op.cycleOpen = true ∧ s.op.direction = .read)) :
    exec .paletteDataRead s =
      .next { s with op := s.op.mismatch, cpr := { s.cpr with portFault := true, readData := some 0 } } :=
  congrArg Host.Outcome.next ((if_neg mismatch).trans (State.readAccess_up up _ _))

/-- Settles O38: the two address rows, the data rows of an open cycle by the component, and the data rows that match
no cycle. -/
theorem paletteCyclesLoadAndRead : Obligations.PaletteCyclesLoadAndRead := by
  refine fun s up => ⟨fun b => ?address, exec_paletteAddressRead up, fun cycleOpen load b => ?load,
    fun cycleOpen read => ?read, fun mismatch => ?strayRead, fun mismatch b => ?strayWrite⟩
  case address => rw [exec_paletteAddressWrite up, Palette.address_eq]
  case load =>
    rw [exec_paletteDataWrite_load up cycleOpen load]
    refine ⟨fun red => ?_, fun green => ?_, fun r g blue red green => ?_⟩
    · rw [Palette.loadByte_r red]
    · rw [Palette.loadByte_g green]
    · rw [Palette.loadByte_b blue red green]
  case read =>
    rw [exec_paletteDataRead_read up cycleOpen read]
    refine ⟨fun red => ?_, fun green => ?_, fun blue => ?_⟩
    · rw [Palette.afterRead_r red, red]; rfl
    · rw [Palette.afterRead_g green, green]; rfl
    · rw [Palette.afterRead_b blue, blue]; rfl
  case strayRead =>
    refine exec_paletteDataRead_mismatch up fun ⟨cycleOpen, read⟩ => ?_
    simp [cycleOpen, read] at mismatch
  case strayWrite =>
    refine exec_paletteDataWrite_mismatch up (fun ⟨cycleOpen, load⟩ => ?_) b
    simp [cycleOpen, load] at mismatch

end Sys2Proof.Machine
end

section
/-! ## The cue line commands (09 R159 to R161) -/

namespace Sys2Proof.Machine

open Sys2Proof

/-! ### The change of one line (09 R159, R160) -/

theorem CueLines.put_get (c : CueLines) (n : Fin 4) : c.put n (c.get n) = c := by
  match n with
  | 0 | 1 | 2 | 3 => rfl

theorem CueLine.toInput_of_input {l : CueLine} (input : l.role = .input) : l.toInput = l := by
  rw [CueLine.toInput, input]

/-- A change of role takes the level again from scratch (09 R160). -/
theorem CueLine.toInput_of_tally {l : CueLine} {g : Nat} (tally : l.role = .tally g) :
    l.toInput = CueLine.retaken .input := by
  rw [CueLine.toInput, tally]

theorem CueLine.toTally_of_input {l : CueLine} (input : l.role = .input) (h : Nat) :
    l.toTally h = CueLine.retaken (.tally h) := by
  rw [CueLine.toTally, input]

/-- A TALLY line that nominates another title keeps its level (09 R159). -/
theorem CueLine.toTally_of_tally {l : CueLine} {g : Nat} (tally : l.role = .tally g) (h : Nat) :
    l.toTally h = { l with role := .tally h } := by
  rw [CueLine.toTally, tally]

theorem cueLineOf_eq_none {v : Nat} (out : 4 ≤ v) : cueLineOf v = none := by
  unfold cueLineOf
  split
  · omega
  · omega
  · omega
  · omega
  · rfl

theorem cueLineOf_val (n : Fin 4) : cueLineOf n.val = some n := by
  match n with
  | 0 | 1 | 2 | 3 => rfl

/-! ### SET CUE LINE (09 R159) -/

theorem doSetCueLine_badLine {line : Byte} (bad : 4 ≤ line.toNat) (role h : Byte) (s : State) :
    doSetCueLine [line, role, h] s = (s, Reply.badChoice 1) := by
  have none : cueLineOf (byteAt [line, role, h] 1) = none := cueLineOf_eq_none bad
  rw [doSetCueLine, none]; rfl

section

variable {line : Byte} {n : Fin 4} (number : line.toNat = n.val)

include number

theorem cueLineOf_byteAt_one (ps : List Byte) : cueLineOf (byteAt (line :: ps) 1) = some n := by
  rw [← cueLineOf_val n, ← number]; rfl

theorem doSetCueLine_badRole {role : Byte} (bad : 2 ≤ role.toNat) (h : Byte) (s : State) :
    doSetCueLine [line, role, h] s = (s, Reply.badChoice 2) := by
  have two : byteAt [line, role, h] 2 = role.toNat := rfl
  simp only [doSetCueLine, cueLineOf_byteAt_one number]
  split
  · omega
  · omega
  · rfl

theorem doSetCueLine_input (h : Byte) (s : State) :
    doSetCueLine [line, 0, h] s = ({ s with clu := s.clu.put n (s.clu.get n).toInput }, Reply.good []) := by
  rw [doSetCueLine, cueLineOf_byteAt_one number]; rfl

theorem doSetCueLine_tally (h : Byte) (s : State) :
    doSetCueLine [line, 1, h] s =
      s.onTitle h.toNat fun _ =>
        ({ s with clu := s.clu.put n ((s.clu.get n).toTally h.toNat) }, Reply.good []) := by
  rw [doSetCueLine, cueLineOf_byteAt_one number]; rfl

end

section

variable {s : State} {line role : Byte} (w : s.Awaits .setCueLine [line, role]) (h : Byte)

include w

theorem exec_setCueLine :
    exec (.setCueLine h) s = .next (finish 0x50 (doSetCueLine [line, role, h] s.endCollection)) :=
  congrArg Host.Outcome.next (State.lastByte_performed w h 0x50 doSetCueLine)

theorem exec_setCueLine_badLine (bad : 4 ≤ line.toNat) :
    exec (.setCueLine h) s = .next (s.answered 0x50 (Reply.check .illegalRequest 4 0 1)) := by
  rw [exec_setCueLine w, doSetCueLine_badLine bad, finish_endCollection]
  rfl

variable {n : Fin 4} (number : line.toNat = n.val)

include number

theorem exec_setCueLine_badRole (bad : 2 ≤ role.toNat) :
    exec (.setCueLine h) s = .next (s.answered 0x50 (Reply.check .illegalRequest 4 0 2)) := by
  rw [exec_setCueLine w, doSetCueLine_badRole number bad, finish_endCollection]
  rfl

theorem exec_setCueLine_input (input : role = 0) :
    exec (.setCueLine h) s =
      .next (({ s with clu := s.clu.put n (s.clu.get n).toInput } : State).answered 0x50 (Reply.good [])) := by
  subst input
  rw [exec_setCueLine w, doSetCueLine_input number, ← finish_endCollection]
  rfl

theorem exec_setCueLine_noSuchTitle (tally : role = 1) (free : s.title h.toNat = none) :
    exec (.setCueLine h) s = .next (s.answered 0x50 (Reply.check .illegalRequest 2 h.toNat 0)) := by
  subst tally
  rw [exec_setCueLine w, doSetCueLine_tally number, finish_noSuchTitle free]

theorem exec_setCueLine_tally (tally : role = 1) (live : s.title h.toNat ≠ none) :
    exec (.setCueLine h) s =
      .next (({ s with clu := s.clu.put n ((s.clu.get n).toTally h.toNat) } : State).answered 0x50
        (Reply.good [])) := by
  subst tally
  obtain ⟨t, live⟩ := Option.ne_none_iff_exists'.mp live
  rw [exec_setCueLine w, doSetCueLine_tally number, State.onTitle_of_some (s := s.endCollection) live,
    ← finish_endCollection]
  rfl

end

/-! ### REPORT CUE LINES (09 R161) -/

theorem exec_reportCueLines {s : State} (w : s.Performs) :
    exec .reportCueLines s = .next (finish 0x51 (doReportCueLines s.openCommand)) :=
  congrArg Host.Outcome.next (State.commandRow_performed w 0x51 doReportCueLines)

theorem byteOf_qualifiedCode (q : QualifiedLevel) :
    byteOf q.code = if q = .low then 0 else if q = .high then 1 else 2 := by
  cases q <;> rfl

theorem cueLineBytes_of_input {l : CueLine} (input : l.role = .input) :
    cueLineBytes l = [0, 0, byteOf l.qualified.code] := by
  rw [cueLineBytes, input]

theorem cueLineBytes_of_tally {l : CueLine} {h : Nat} (tally : l.role = .tally h) :
    cueLineBytes l = [1, byteOf h, byteOf l.qualified.code] := by
  rw [cueLineBytes, tally]

/-- Settles O55: SET CUE LINE check by check, then by the role asked for and the role the line has; REPORT CUE LINES
over the opened command, entry by entry. -/
theorem cueLineRolesAreSetAndReported : Obligations.CueLineRolesAreSetAndReported := by
  refine fun s => ⟨fun line role h w => ⟨exec_setCueLine_badLine w h, fun n number => ?set⟩, fun w => ?report⟩
  case set =>
    refine ⟨exec_setCueLine_badRole w h number, exec_setCueLine_noSuchTitle w h number, fun toInput input => ?_,
      fun g toInput tally => ?_, fun toTally live => ⟨fun input => ?_, fun g tally => ?_⟩⟩
    · rw [exec_setCueLine_input w h number toInput, CueLine.toInput_of_input input, CueLines.put_get]
    · rw [exec_setCueLine_input w h number toInput, CueLine.toInput_of_tally tally]; rfl
    · rw [exec_setCueLine_tally w h number toTally live, CueLine.toTally_of_input input]; rfl
    · rw [exec_setCueLine_tally w h number toTally live, CueLine.toTally_of_tally tally]
  case report =>
    intro bytes
    have entry (l : CueLine) : cueLineBytes l = bytes l := by
      cases role : l.role with
      | input => simp [bytes, role, cueLineBytes_of_input role, byteOf_qualifiedCode]
      | tally h => simp [bytes, role, cueLineBytes_of_tally role, byteOf_qualifiedCode]
    rw [exec_reportCueLines w, doReportCueLines, finish_openCommand, ← entry, ← entry, ← entry, ← entry]
    rfl

end Sys2Proof.Machine
end

section
/-! ## The command port: a byte by the state of collection, the attention answer, and reads (11 R171 to R176, R181)

The row of a last byte and the plain parameter write leave the same state, whatever is being collected, and so do the
row of a command without parameters and the plain command write (log 2). What a host command does is then said once, for
the two writes. -/

namespace Sys2Proof

/-! ### The command code table (11 R174) -/

theorem Command.mem_all (c : Command) : c ∈ Command.all := by
  cases c <;> simp [Command.all]

theorem Command.ofCode_code (c : Command) : Command.ofCode c.code = some c := by
  cases c <;> rfl

theorem Command.ofCode_eq_some_iff (b : Byte) (c : Command) : Command.ofCode b = some c ↔ c.code = b := by
  refine ⟨fun named => ?_, fun code => code ▸ c.ofCode_code⟩
  have found : (c.code == b) = true := List.find?_some (p := fun d : Command => d.code == b) named
  exact eq_of_beq found

theorem Instr.paramCount_of_wholeCommand {i : Instr} {c : Command} (whole : i.wholeCommand = some c) :
    c.paramCount = 0 := by
  cases i with
  | resetTitles | cutAll | holdAmendments | applyAmendments | queryPending | enterStandby | leaveStandby
  | reportCueLines | reportLock | readEvents | readNotices =>
    cases whole
    rfl
  | _ => cases whole

end Sys2Proof

namespace Sys2Proof.Machine

open Sys2Proof

/-! ### The front of the queue (log 1) -/

/-- Settles O1: the queue's own case of a step. -/
theorem stepRunsFrontCommand : Obligations.StepRunsFrontCommand := by
  intro c rest s front
  rw [step, front]
  rfl

/-! ### The two writes, by what the port holds (11 R171, R174) -/

theorem State.writeCommand_low {s : State} (low : s.pins.resetLow = true) (code : Byte) : s.writeCommand code = s :=
  if_pos low

theorem State.writeCommand_unknown {s : State} (up : s.pins.resetLow = false) {code : Byte}
    (unknown : Command.ofCode code = none) : s.writeCommand code = refuseUnknown code s.openCommand := by
  simp [State.writeCommand, up, unknown]

/-- The code of a command without parameters performs it. -/
theorem State.writeCommand_whole {s : State} (up : s.pins.resetLow = false) {c : Command} (bare : c.paramCount = 0) :
    s.writeCommand c.code = perform c [] s.openCommand := by
  simp [State.writeCommand, up, c.ofCode_code, bare]

/-- The code of a command with parameters begins its collection. -/
theorem State.writeCommand_collects {s : State} (up : s.pins.resetLow = false) {c : Command}
    (counted : c.paramCount ≠ 0) :
    s.writeCommand c.code =
      { s.openCommand with cpr := { s.openCommand.cpr with collecting := some { command := c, params := [] } } } := by
  simp [State.writeCommand, up, c.ofCode_code, counted]

theorem State.writeParameter_low {s : State} (low : s.pins.resetLow = true) (b : Byte) : s.writeParameter b = s :=
  if_pos low

/-- A parameter byte while nothing is collected is ignored, with PORT FAULT. -/
theorem State.writeParameter_stray {s : State} (up : s.pins.resetLow = false) (idle : s.cpr.collecting = none)
    (b : Byte) : s.writeParameter b = s.portFault := by
  simp [State.writeParameter, up, idle]

section

variable {s : State} {c : Command} {ps : List Byte} (up : s.pins.resetLow = false)
  (collects : s.cpr.collecting = some { command := c, params := ps })

include up collects

/-- The last parameter byte performs the command. -/
theorem State.writeParameter_last (len : ps.length + 1 = c.paramCount) (b : Byte) :
    s.writeParameter b = perform c (ps ++ [b]) s.endCollection := by
  simp [State.writeParameter, up, collects, len]

/-- Any other parameter byte joins the command. -/
theorem State.writeParameter_joins (more : ps.length + 1 ≠ c.paramCount) (b : Byte) :
    s.writeParameter b =
      { s with cpr := { s.cpr with collecting := some { command := c, params := ps ++ [b] } } } := by
  simp [State.writeParameter, up, collects, more]

end

/-! ### The rows of the host's commands are the two writes (log 2) -/

theorem State.awaitsLast_eq_some {s : State} {c : Command} {ps : List Byte} (waits : s.awaitsLast c = some ps) :
    s.cpr.collecting = some { command := c, params := ps } ∧ ps.length + 1 = c.paramCount := by
  unfold State.awaitsLast at waits
  split at waits
  · cases waits
  · next k collects =>
    split at waits
    · next waiting =>
      obtain ⟨rfl, len⟩ := waiting
      cases waits
      exact ⟨collects, len⟩
    · cases waits

/-- The row of a last byte leaves what the plain parameter write leaves, where its body performs the command. -/
theorem State.lastByte_eq_writeParameter (s : State) {c : Command} {b : Byte} {body : List Byte → State → State}
    (performs : ∀ ps t, ps.length + 1 = c.paramCount → body (ps ++ [b]) t = perform c (ps ++ [b]) t) :
    s.lastByte c b body = s.writeParameter b := by
  unfold State.lastByte
  split
  · next low => exact (State.writeParameter_low low b).symm
  · next up =>
    split
    · rfl
    · next ps waits =>
      obtain ⟨collects, len⟩ := State.awaitsLast_eq_some waits
      rw [performs ps _ len, State.writeParameter_last (Bool.eq_false_of_not_eq_true up) collects len]

/-- The row of a last byte is the plain write of that byte, whatever is being collected. A mode in the name of a row is
the second of two parameter bytes. -/
theorem exec_of_lastByteOf {i : Instr} {c : Command} {b : Byte} (last : i.lastByteOf = some (c, b)) (s : State) :
    exec i s = .next (s.writeParameter b) := by
  cases i with
  | createTitle | amendTitle | queryTitle | listTitles | hitTest | arm | disarm | start | leave | resume | rearm
  | setTiming | discardPending | setMode | reportMode | setEvents | setCueLine | reportCondition =>
    cases last
    exact congrArg Host.Outcome.next (s.lastByte_eq_writeParameter fun _ _ _ => rfl)
  | retireTitleImmediate | retireTitleGraceful | haltImmediate | haltDecelerated =>
    cases last
    refine congrArg Host.Outcome.next (s.lastByte_eq_writeParameter fun ps t len => ?_)
    obtain ⟨h, rfl⟩ := List.length_eq_one_iff.mp (Nat.succ.inj len)
    rfl
  | _ => cases last

/-- The row of a command without parameters leaves what the plain write of its code leaves. -/
theorem State.commandRow_eq_writeCommand (s : State) {c : Command} (bare : c.paramCount = 0) :
    s.commandRow (perform c []) = s.writeCommand c.code := by
  cases reset : s.pins.resetLow with
  | true => rw [State.writeCommand_low reset, State.commandRow, if_pos reset]
  | false => rw [State.writeCommand_whole reset bare, State.commandRow_up reset]

/-- The row of a command without parameters is the plain write of its code. -/
theorem exec_of_wholeCommand {i : Instr} {c : Command} (whole : i.wholeCommand = some c) (s : State) :
    exec i s = .next (s.writeCommand c.code) := by
  rw [← s.commandRow_eq_writeCommand (Instr.paramCount_of_wholeCommand whole)]
  cases i with
  | resetTitles | cutAll | holdAmendments | applyAmendments | queryPending | enterStandby | leaveStandby
  | reportCueLines | reportLock | readEvents | readNotices =>
    cases whole
    rfl
  | _ => cases whole

/-- Settles O35: a row of a last byte is the plain parameter write in every state of collection, and so is the row of a
stray byte. -/
theorem bytesActByTheStateOfCollection : Obligations.BytesActByTheStateOfCollection := by
  refine fun i s => ⟨fun c b ps last => ?_, fun c whole => (exec_of_wholeCommand whole s).symm⟩
  have plain : exec i s = exec (.parameterByteWrite b) s := exec_of_lastByteOf last s
  exact ⟨fun _ _ => plain.symm, fun _ => plain, fun _ _ => plain, fun _ _ _ => plain⟩

/-! ### The attention answer (11 R181) -/

/-- Every command but REPORT CONDITION is answered ATTENTION in place of its work. -/
theorem perform_attention {s : State} (reasons : s.cpr.attention.any = true) {c : Command}
    (other : c ≠ .reportCondition) (ps : List Byte) : perform c ps s = s.answerAttention c.code := by
  cases c with
  | reportCondition => exact absurd rfl other
  | reportLock => exact if_pos reasons
  | _ => rw [perform, performWith_attention _ _ reasons]

theorem State.endCollection_answerAttention (s : State) (code : Byte) :
    s.endCollection.answerAttention code = s.attentionAnswered code := rfl

theorem State.openCommand_answerAttention (s : State) (code : Byte) :
    s.openCommand.answerAttention code = s.abandoning.attentionAnswered code := rfl

/-- Settles O33: the last byte of a command, the code of one without parameters, and a code that names none. -/
theorem attentionAnswersEveryCommand : Obligations.AttentionAnswersEveryCommand := by
  refine fun s up reasons => ⟨fun i c b ps last other collects len => ?_, fun i c whole => ?_, fun code unknown => ?_⟩
  · rw [exec_of_lastByteOf last, State.writeParameter_last up collects len,
      perform_attention (s := s.endCollection) reasons other, State.endCollection_answerAttention]
  · have other : c ≠ .reportCondition := by
      rintro rfl
      exact absurd (Instr.paramCount_of_wholeCommand whole) Nat.one_ne_zero
    rw [exec_of_wholeCommand whole, State.writeCommand_whole up (Instr.paramCount_of_wholeCommand whole),
      perform_attention (s := s.openCommand) reasons other, State.openCommand_answerAttention]
  · have answer : s.writeCommand code = s.abandoning.attentionAnswered code := by
      rw [State.writeCommand_unknown up unknown, refuseUnknown,
        performWith_attention (s := s.openCommand) _ _ reasons, State.openCommand_answerAttention]
    exact congrArg Host.Outcome.next answer

/-! ### The writes that perform no command, and the unknown code (11 R173, R174, R176) -/

/-- With no reason pending an unknown code is refused. -/
theorem State.writeCommand_unknown_quiet {s : State} (up : s.pins.resetLow = false) {code : Byte}
    (unknown : Command.ofCode code = none) (quiet : s.cpr.attention.any = false) :
    s.writeCommand code = s.abandoning.answered code (Reply.check .illegalRequest 1 0 0) := by
  rw [State.writeCommand_unknown up unknown, refuseUnknown, performWith_performs (s := s.openCommand) _ _ quiet,
    State.refuse, finish_openCommand]
  rfl

/-- Settles O34: the table row by row, and each write by what the port holds. -/
theorem portWritesCollectAndAbandon : Obligations.PortWritesCollectAndAbandon := by
  refine ⟨fun c => ?_, Command.ofCode_eq_some_iff, fun s up => ⟨fun c counted => ?_, fun c ps b collects more => ?_,
    fun b idle => ?_, fun code unknown quiet => ?_⟩⟩
  · exact List.mem_map_of_mem (f := fun d : Command => (d, d.code, d.paramCount)) c.mem_all
  · exact congrArg Host.Outcome.next (State.writeCommand_collects up counted)
  · exact congrArg Host.Outcome.next (State.writeParameter_joins up collects more b)
  · exact congrArg Host.Outcome.next (State.writeParameter_stray up idle b)
  · exact congrArg Host.Outcome.next (State.writeCommand_unknown_quiet up unknown quiet)

/-! ### Reads (11 R172, R175) -/

theorem exec_resultRead_cons {s : State} (up : s.pins.resetLow = false) {b : Byte} {rest : List Byte}
    (results : s.cpr.results = b :: rest) :
    exec .resultRead s = .next { s with cpr := { s.cpr with results := rest, readData := some b } } := by
  have read : s.readResult = s.readAccess b { s with cpr := { s.cpr with results := rest } } := by
    rw [State.readResult, results]
  exact congrArg Host.Outcome.next (read.trans (State.readAccess_up up b _))

theorem exec_resultRead_nil {s : State} (up : s.pins.resetLow = false) (empty : s.cpr.results = []) :
    exec .resultRead s = .next { s with cpr := { s.cpr with portFault := true, readData := some 0 } } := by
  have read : s.readResult = s.readAccess 0 s.portFault := by rw [State.readResult, empty]
  exact congrArg Host.Outcome.next (read.trans (State.readAccess_up up 0 _))

theorem exec_statusRead {s : State} (up : s.pins.resetLow = false) :
    exec .statusRead s =
      .next { s with cpr := { s.cpr with portFault := false, readData := some s.statusByte } } :=
  congrArg Host.Outcome.next (State.readAccess_up up s.statusByte _)

theorem boolCode_eq_toNat (b : Bool) : boolCode b = b.toNat := by
  cases b <;> rfl

/-- A byte written as eight flags, each at its weight, has these flags as its bits. -/
theorem byteOf_flags (b0 b1 b2 b3 b4 b5 b6 b7 : Bool) :
    byteOf (boolCode b0 + 2 * boolCode b1 + 4 * boolCode b2 + 8 * boolCode b3 + 16 * boolCode b4 + 32 * boolCode b5
      + 64 * boolCode b6 + 128 * boolCode b7) = BitVec.ofBoolListLE [b0, b1, b2, b3, b4, b5, b6, b7] := by
  refine BitVec.eq_of_toNat_eq ?_
  have empty : (BitVec.ofBoolListLE []).toNat = 0 := rfl
  have cons (b : Bool) (bs : List Bool) :
      (BitVec.ofBoolListLE (b :: bs)).toNat = (BitVec.ofBoolListLE bs).toNat * 2 + b.toNat :=
    BitVec.toNat_concat _ _
  simp only [byteOf, boolCode_eq_toNat, BitVec.toNat_ofNat, cons, empty]
  have := b0.toNat_le; have := b1.toNat_le; have := b2.toNat_le; have := b3.toNat_le
  have := b4.toNat_le; have := b5.toNat_le; have := b6.toNat_le; have := b7.toNat_le
  omega

/-- The bits of the status byte (11, "Status byte"). -/
theorem State.statusByte_bit (s : State) (k : Nat) :
    s.statusByte.getLsbD k =
      [s.cpr.collecting.isSome, !s.cpr.results.isEmpty, s.cpr.portFault, s.cpr.condition.key != .none,
       s.cpr.attention.any, s.cpr.events != 0, s.lle.lock == .standby, s.lle.lock.lockedFlag].getD k false := by
  rw [State.statusByte, byteOf_flags, BitVec.getLsbD_ofBoolListLE]

theorem Attention.any_iff (a : Attention) : a.any = true ↔ a ≠ Attention.empty := by
  cases a with
  | mk powerOn pinReset standardChanged =>
    rw [← not_iff_not]
    simp [Attention.any, Attention.empty, and_assoc]

theorem LockState.lockedFlag_iff (l : LockState) : l.lockedFlag = true ↔ l = .locked ∨ l = .flywheel := by
  cases l <;> simp [LockState.lockedFlag]

theorem State.intLow_up {s : State} (up : s.pins.resetLow = false) : s.intLow = (s.cpr.events != 0) := by
  rw [State.intLow, up]
  rfl

/-- Settles O36: the result list by its two cases, and the status byte flag by flag. -/
theorem portReadsReturnResultsAndStatus : Obligations.PortReadsReturnResultsAndStatus := by
  refine fun s up => ⟨fun _ _ => exec_resultRead_cons up, exec_resultRead_nil up, s.statusByte, exec_statusRead up, ?_⟩
  rw [State.intLow_up up]
  simp only [State.statusByte_bit]
  exact ⟨Option.isSome_iff_ne_none, by simp, Iff.rfl, bne_iff_ne,
    Attention.any_iff _, bne_iff_ne, Iff.rfl, beq_iff_eq, LockState.lockedFlag_iff _⟩

/-! ### The host port while RESET is low (11 R171, log 8) -/

/-- Each write of the host is one of the six plain writes, or a row that leaves what a plain write leaves. -/
theorem exec_write_low {i : Instr} (write : i.isHostWrite = true) {s : State} (low : s.pins.resetLow = true) :
    exec i s = .next s := by
  unfold Instr.isHostWrite at write
  split at write
  next code => exact congrArg Host.Outcome.next (State.writeCommand_low low code)
  next b => exact congrArg Host.Outcome.next (State.writeParameter_low low b)
  next => exact congrArg Host.Outcome.next (if_pos low)
  next => exact congrArg Host.Outcome.next (if_pos low)
  next code => exact congrArg Host.Outcome.next (State.writeCommand_low low code)
  next b => exact congrArg Host.Outcome.next (State.writeParameter_low low b)
  next =>
    obtain last | whole := Bool.or_eq_true_iff.mp write
    · obtain ⟨⟨c, b⟩, last⟩ := Option.isSome_iff_exists.mp last
      rw [exec_of_lastByteOf last, State.writeParameter_low low]
    · obtain ⟨c, whole⟩ := Option.isSome_iff_exists.mp whole
      rw [exec_of_wholeCommand whole, State.writeCommand_low low]

theorem State.readAccess_low {s : State} (low : s.pins.resetLow = true) (byte : Byte) (after : State) :
    s.readAccess byte after = { s with cpr := { s.cpr with readData := none } } :=
  if_pos low

theorem State.readResult_low {s : State} (low : s.pins.resetLow = true) :
    s.readResult = { s with cpr := { s.cpr with readData := none } } := by
  unfold State.readResult
  split <;> exact State.readAccess_low low _ _

theorem State.readPaletteData_low {s : State} (low : s.pins.resetLow = true) :
    s.readPaletteData = { s with cpr := { s.cpr with readData := none } } := by
  unfold State.readPaletteData
  split <;> exact State.readAccess_low low _ _

/-- Whatever a read would have driven, and whatever it would have done, neither happens. -/
theorem exec_read_low {i : Instr} (read : i.isHostRead = true) {s : State} (low : s.pins.resetLow = true) :
    exec i s = .next { s with cpr := { s.cpr with readData := none } } := by
  cases i with
  | resultRead => exact congrArg Host.Outcome.next (State.readResult_low low)
  | paletteDataRead => exact congrArg Host.Outcome.next (State.readPaletteData_low low)
  | statusRead | paletteAddressRead => exact congrArg Host.Outcome.next (State.readAccess_low low _ _)
  | _ => cases read

/-- Settles O37: the writes, then the reads. -/
theorem resetLowIgnoresTheHostPort : Obligations.ResetLowIgnoresTheHostPort :=
  fun _ _ low => ⟨fun write => exec_write_low write low, fun read => exec_read_low read low⟩

end Sys2Proof.Machine
end
